-- ==== Sys2Proof/Word.lean ====
section
/-! DEFINITION. The bit vectors of the block: a data byte, a 16-bit address, a 5-bit register and the 26-bit transaction word (00_scope.md R7, 30_encoding.md R80). -/

namespace Sys2Proof

/-- A data byte (R7). -/
abbrev Byte := BitVec 8

/-- An address of the CPU port or of the PPU port; both carry 16 bits (R7, R10, R51). -/
abbrev Addr := BitVec 16

/-- A bank-select register or the shift register: 5 bits (R7, R23, R28). -/
abbrev Reg5 := BitVec 5

/-- A transaction word T (R80). -/
abbrev Word26 := BitVec 26

end Sys2Proof
end

