-- ==== Sys2Proof/Syntax.lean ====
section
/-! DEFINITION. Variants, the cartridge a Construct is given, the operations the environment issues, and Instr: one constructor per mnemonic of spec/opcode_table.json. -/

namespace Sys2Proof

/-- The two variants, and no other (R1). -/
inductive Variant where
  | nrom
  | mmc1
deriving DecidableEq, Repr, Inhabited

/-- The mirroring mode held by the cartridge's cell (R37). -/
inductive Mirroring where
  | oneScreenLow
  | oneScreenHigh
  | vertical
  | horizontal
deriving DecidableEq, Repr, Inhabited

/-- A memory: the cells that are listed, by rising offset. What an unlisted offset reads as is said where the memory is read. -/
abbrev Memory := List Host.Cell

/-- The cartridge: the parameters of R6 but for the mapper identifier, and the mirroring cell, the one mutable field (R5, R37).
The parameter functions PRG_ROM, CHR_ROM and PRGRAM_INIT are given by the cells listed here; a byte that is not listed is a
free value of Config, named by `serial` (log 4, log 5). -/
structure Cartridge where
  serial     : Nat
  prgBanks   : Nat
  prgRom     : Memory
  chrSize    : Nat
  chrRom     : Memory
  prgRamInit : Memory
  mirroring  : Mirroring
deriving DecidableEq, Repr, Inhabited

/-- One operation as the environment issues it (R10): a bus transaction by its word (R80), or one of the two operations
that have no word, Construct with its parameters (R110) and MapsChr (R113). -/
inductive Request where
  | bus (word : Word26)
  | construct (mapperId : Nat) (cart : Cartridge)
  | mapsChr
deriving DecidableEq, Repr

/-- The operations, one constructor per mnemonic of the opcode table (R87). `a` is the address A, `d` the data byte D. -/
inductive Instr where
  | nRdLow (a : Addr)
  | nRdPrg (a : Addr)
  | nWr (a : Addr) (d : Byte)
  | nChr (a : Addr)
  | nChrOor (a : Addr)
  | mRdLow (a : Addr)
  | mRdRam (a : Addr)
  | mRdPrg (a : Addr)
  | mWrIgn (a : Addr) (d : Byte)
  | mWrRam (a : Addr) (d : Byte)
  | mWrReset (a : Addr) (d : Byte)
  | mWrShift (a : Addr) (d : Byte)
  | mWrCommitCtrl (a : Addr) (d : Byte)
  | mWrCommitChr0 (a : Addr) (d : Byte)
  | mWrCommitChr1 (a : Addr) (d : Byte)
  | mWrCommitPrg (a : Addr) (d : Byte)
  | mChr (a : Addr)
  | mChrOor (a : Addr)
  | constructNrom (cart : Cartridge)
  | constructMmc1 (cart : Cartridge)
  | constructBad (mapperId : Nat)
  | mapsChr
  | recompute
deriving DecidableEq, Repr

end Sys2Proof
end

