-- ==== Sys2Proof/Config.lean ====
section
/-! DEFINITION. The free values of the open parameters of 00_scope.md R6. None has a body Lean can see, so a claim holds for every value. The first argument of the functions is the cartridge's serial number, so that two loads share nothing. -/

namespace Sys2Proof

/-- PRG_ROM at an offset the cartridge's image does not list (R6, R36; log 4). -/
opaque Config.prgRom : Nat → Nat → Byte

/-- CHR_ROM at an offset the cartridge's image does not list (R6, R36; log 4). -/
opaque Config.chrRom : Nat → Nat → Byte

/-- PRGRAM_INIT at an index the cartridge does not list (R6, R35, decision D11; log 5). -/
opaque Config.prgRamInit : Nat → Nat → Byte

/-- MIRRORING_INIT of the cartridge of State.reset (R6, R37, decision D12; log 6). -/
opaque Config.mirroringInit : Mirroring

end Sys2Proof
end

