-- ==== Sys2Proof/Machine/State.lean ====
section
/-! DEFINITION. The state as plain data (10_state.md R20 to R40), the faults and refusals, and the state after reset. -/

namespace Sys2Proof.Machine

/-- The port an operation arrives on (R51, R170). -/
inductive Port where
  | cpu
  | ppu
deriving DecidableEq, Repr

/-- The ROM a translated read goes to (R170, R173). -/
inductive Rom where
  | prg
  | chr
deriving DecidableEq, Repr

/-- A fault with its record: exactly three exist (R170). -/
inductive FaultRecord where
  /-- Code 1: Construct with an identifier other than 0 and 1 (R111, R171). -/
  | unsupportedMapper (mapperId : Nat)
  /-- Code 2: a read outside the variant's declared ranges (R172). -/
  | addressRange (port : Port) (a : Addr)
  /-- Code 3: a translated read at or beyond the end of a ROM (R173). -/
  | romBounds (rom : Rom) (off : Nat)
deriving DecidableEq, Repr

/-- A pair of the derived-offset RAM: the entries of windows 0 and 1, natural numbers that never wrap (R33, R34). -/
structure Offsets where
  w0 : Nat
  w1 : Nat
deriving DecidableEq, Repr

/-- What the latest operation answered. The model's own field (log 10): R9's `return b`, R51's cpu_rdata, ppu_rdata and maps_chr. -/
inductive Result where
  /-- No operation yet, a completed mutation, or a raised fault (R55, R176 (b)). -/
  | nothing
  /-- The data byte of a read. -/
  | byte (b : Byte)
  /-- The Boolean of MapsChr. -/
  | flag (b : Bool)
deriving DecidableEq, Repr

/-- The state of the block, of the cartridge it is wired to, and of the trace still to come.
The registers, the protocol state, the derived offsets and the program RAM exist in the MMC1 variant only; under NROM no
operation reads or writes them (R22; log 16). -/
structure State where
  /-- The constructed variant (R110, R112). -/
  variant : Variant
  /-- R24. -/
  control : Reg5
  /-- R25. -/
  prgSelect : Reg5
  /-- R26. -/
  chr0Select : Reg5
  /-- R27. -/
  chr1Select : Reg5
  /-- R28. -/
  shiftRegister : Reg5
  /-- R29: 0 to 4 at every operation boundary, an invariant every step keeps (R39). -/
  shiftCount : Nat
  /-- R33. -/
  prgOffsets : Offsets
  /-- R33. -/
  chrOffsets : Offsets
  /-- The bytes of the program RAM written so far or given at construction, by index 0 to 0x1FFF (R35). -/
  prgRam : Memory
  /-- The sticky fault condition with its record (R20, R176). -/
  faulted : Option FaultRecord
  /-- The parameters of construction and the mirroring cell (R6, R36, R37). -/
  cart : Cartridge
  /-- The answer of the latest operation (log 10). -/
  result : Result
  /-- The operations still to come, oldest first (R61, R206; log 1). -/
  pending : List Request
deriving DecidableEq, Repr

/-- How a step stops for good. -/
inductive Fault where
  /-- Raised by Construct with an identifier other than 0 and 1: no block exists, so there is no next state (R111, R171; log 19).
  Safe: the session must not start. -/
  | unsupportedMapper (mapperId : Nat)
  /-- Raised by every operation but a new construction, and by every step with nothing to do, once `faulted` is set: the block
  is halted and no operation is answered (R176 (d), R177, R178). Safe: the hardware defines nothing there. -/
  | halted (record : FaultRecord)
deriving DecidableEq, Repr

/-- Why an instruction is given no meaning. -/
inductive Refusal where
  /-- An arm of exec that has no meaning yet. No arm is left. Safe. -/
  | notModelled (mnemonic : String)
  /-- Raised by step for a word of kind 0b11, which spells no transaction and never reaches the block (R80, R89). Safe. -/
  | notATransaction (word : Word26)
  /-- Raised by exec for an instruction whose row of R87 does not hold: another variant, an operand outside the row, another
  shiftCount. No step raises it, since the decoder picks the row that holds (log 11). Safe. -/
  | notThisRow
  /-- Raised by Construct with PRG_BANKS = 0, which R193 (b) excludes and 93_implementation_defined.md U8 refuses (log 14). Safe. -/
  | noProgramBank
  /-- Raised by Construct with a list of cells that is not canonical or leaves its memory: it spells no cartridge (log 14). Safe. -/
  | malformedImage
deriving DecidableEq, Repr

/-- The cartridge State.reset was constructed with: the values of log 3, no listed byte, and the free MIRRORING_INIT. -/
def Cartridge.atReset : Cartridge where
  serial := 0
  prgBanks := 1
  prgRom := []
  chrSize := 0x2000
  chrRom := []
  prgRamInit := []
  mirroring := Config.mirroringInit

/-- The state after construction, the block's only reset (R40, R190), of the MMC1 variant (log 2), with nothing pending. -/
def State.reset : State where
  variant := .mmc1
  control := 0x1C
  prgSelect := 0
  chr0Select := 0
  chr1Select := 0
  shiftRegister := 0
  shiftCount := 0
  prgOffsets := ⟨0, (Cartridge.atReset.prgBanks - 1) * 0x4000⟩
  chrOffsets := ⟨0, 0⟩
  prgRam := Cartridge.atReset.prgRamInit
  faulted := none
  cart := Cartridge.atReset
  result := .nothing
  pending := []

end Sys2Proof.Machine
end

