-- ==== Sys2Proof/Machine/Flags.lean ====
section
/-! DEFINITION. The block has no flags and no condition codes (10_state.md R31). What stands here is the one Boolean it exposes and the codes of the faults. -/

namespace Sys2Proof.Machine

/-- MapsChr, a constant of the variant (R31, R113). -/
def mapsChrOf (v : Variant) : Bool := decide (v = .mmc1)

/-- The code of a fault (R170). -/
def FaultRecord.code : FaultRecord → Nat
  | .unsupportedMapper _ => 1
  | .addressRange _ _ => 2
  | .romBounds _ _ => 3

end Sys2Proof.Machine
end

