-- ==== Sys2Proof/WellFormed.lean ====
section
/-! DEFINITION. The canonical form of a memory, when a cartridge meets the preconditions of construction, and when an instruction's operands lie in its row of the decode table. -/

namespace Sys2Proof

/-- Every listed offset is at least `low`, below `size`, and the offsets rise strictly. -/
def Memory.wfFrom (size : Nat) : Nat → Memory → Bool
  | _, [] => true
  | low, (i, _) :: m => decide (low ≤ i) && decide (i < size) && Memory.wfFrom size (i + 1) m

/-- The canonical form of a memory of `size` bytes: offsets strictly rising, all below `size`. An unlisted offset holds no
listed byte, so no entry can equal it, and two memories that list the same bytes are equal (Laws/Memory.lean). -/
def Memory.wf (size : Nat) (m : Memory) : Bool := Memory.wfFrom size 0 m

/-- PRG_SIZE (R6, decision D14 of the spec). -/
def Cartridge.prgSize (c : Cartridge) : Nat := c.prgBanks * 0x4000

/-- The size of the program RAM (R7, R35). -/
def prgRamSize : Nat := 0x2000

/-- The cells listed for PRG_ROM, CHR_ROM and PRGRAM_INIT are canonical and inside them (log 14). -/
def Cartridge.imagesWf (c : Cartridge) : Bool :=
  Memory.wf c.prgSize c.prgRom && Memory.wf c.chrSize c.chrRom && Memory.wf prgRamSize c.prgRamInit

/-- What the loader owes the block (R193 (b)), with images in canonical form. -/
def Cartridge.wf (c : Cartridge) : Bool := decide (1 ≤ c.prgBanks) && c.imagesWf

/-- The operands of an instruction lie in its row of R87 (the addresses of R56 and R57, D[7] of R85), and a Construct is given a
cartridge that meets R193 and the identifier of its row. -/
def Instr.wf : Instr → Bool
  | .nRdLow a => decide (a.toNat < 0x8000)
  | .nRdPrg a => decide (0x8000 ≤ a.toNat)
  | .nWr _ _ => true
  | .nChr a => decide (a.toNat < 0x2000)
  | .nChrOor a => decide (0x2000 ≤ a.toNat)
  | .mRdLow a => decide (a.toNat < 0x6000)
  | .mRdRam a => decide (0x6000 ≤ a.toNat) && decide (a.toNat ≤ 0x7FFF)
  | .mRdPrg a => decide (0x8000 ≤ a.toNat)
  | .mWrIgn a _ => decide (a.toNat < 0x6000)
  | .mWrRam a _ => decide (0x6000 ≤ a.toNat) && decide (a.toNat ≤ 0x7FFF)
  | .mWrReset a d => decide (0x8000 ≤ a.toNat) && decide (0x80 ≤ d.toNat)
  | .mWrShift a d => decide (0x8000 ≤ a.toNat) && decide (d.toNat < 0x80)
  | .mWrCommitCtrl a d => decide (0x8000 ≤ a.toNat) && decide (a.toNat ≤ 0x9FFF) && decide (d.toNat < 0x80)
  | .mWrCommitChr0 a d => decide (0xA000 ≤ a.toNat) && decide (a.toNat ≤ 0xBFFF) && decide (d.toNat < 0x80)
  | .mWrCommitChr1 a d => decide (0xC000 ≤ a.toNat) && decide (a.toNat ≤ 0xDFFF) && decide (d.toNat < 0x80)
  | .mWrCommitPrg a d => decide (0xE000 ≤ a.toNat) && decide (d.toNat < 0x80)
  | .mChr a => decide (a.toNat < 0x2000)
  | .mChrOor a => decide (0x2000 ≤ a.toNat)
  | .constructNrom c => c.wf
  | .constructMmc1 c => c.wf
  | .constructBad n => decide (2 ≤ n)
  | .mapsChr => true
  | .recompute => true

/-- The row's conditions on the block: its variant, and for the shift and the commits `shiftCount` before the operation (R87). -/
def Instr.rowSelected (v : Variant) (sc : Nat) : Instr → Bool
  | .nRdLow _ | .nRdPrg _ | .nWr _ _ | .nChr _ | .nChrOor _ => v = .nrom
  | .mRdLow _ | .mRdRam _ | .mRdPrg _ | .mWrIgn _ _ | .mWrRam _ _ | .mWrReset _ _ | .mChr _ | .mChrOor _ | .recompute => v = .mmc1
  | .mWrShift _ _ => v = .mmc1 && sc < 4
  | .mWrCommitCtrl _ _ | .mWrCommitChr0 _ _ | .mWrCommitChr1 _ _ | .mWrCommitPrg _ _ => v = .mmc1 && 4 ≤ sc
  | .constructNrom _ | .constructMmc1 _ | .constructBad _ | .mapsChr => true

end Sys2Proof
end

