-- ==== Sys2Proof/Decode.lean ====
section
/-! DEFINITION. The decoder, total on every transaction word, and the encoder (30_encoding.md R80 to R92). Which row a word is depends on the variant and on shiftCount (R87), so the decoder takes both. -/

namespace Sys2Proof

/-- Why a request spells no operation: its kind is 0b11 (R80, R89). -/
inductive Reject where
  | notATransaction (word : Word26)
deriving DecidableEq, Repr

/-- K, bits 25:24 of a transaction word (R80). -/
def Word26.kind (t : Word26) : BitVec 2 := t.extractLsb' 24 2

/-- A, bits 23:8 of a transaction word (R80). -/
def Word26.addr (t : Word26) : Addr := t.extractLsb' 8 16

/-- D, bits 7:0 of a transaction word (R80). -/
def Word26.data (t : Word26) : Byte := t.extractLsb' 0 8

/-- The register window of a write to 0x8000..0xFFFF: A[14:13] (R83). -/
def Addr.registerWindow (a : Addr) : BitVec 2 := a.extractLsb' 13 2

/-- A CpuRead on the NROM variant (R121, R122). -/
def decodeNromRead (a : Addr) : Instr :=
  if a.toNat < 0x8000 then .nRdLow a else .nRdPrg a

/-- A PpuRead on the NROM variant (R124, R125). -/
def decodeNromPpu (a : Addr) : Instr :=
  if a.toNat < 0x2000 then .nChr a else .nChrOor a

/-- A CpuRead on the MMC1 variant, in the order of tests of R160. -/
def decodeMmc1Read (a : Addr) : Instr :=
  if a.toNat < 0x6000 then .mRdLow a
  else if a.toNat ≤ 0x7FFF then .mRdRam a
  else .mRdPrg a

/-- The committing write: the row of the register window of its address (R83, R135). -/
def decodeCommit (a : Addr) (d : Byte) : Instr :=
  match a.registerWindow with
  | 0#2 => .mWrCommitCtrl a d
  | 1#2 => .mWrCommitChr0 a d
  | 2#2 => .mWrCommitChr1 a d
  | _ => .mWrCommitPrg a d

/-- A CpuWrite on the MMC1 variant, in the order of tests of R86. -/
def decodeMmc1Write (sc : Nat) (a : Addr) (d : Byte) : Instr :=
  if a.toNat < 0x6000 then .mWrIgn a d
  else if a.toNat ≤ 0x7FFF then .mWrRam a d
  else if d.getLsbD 7 then .mWrReset a d
  else if sc < 4 then .mWrShift a d
  else decodeCommit a d

/-- A PpuRead on the MMC1 variant (R164, R165). -/
def decodeMmc1Ppu (a : Addr) : Instr :=
  if a.toNat < 0x2000 then .mChr a else .mChrOor a

/-- The operation a transaction word is, for the constructed variant and the present shiftCount (R87); K = 0b11 is refused (R80). -/
def decodeWord (v : Variant) (sc : Nat) (t : Word26) : Except Reject Instr :=
  match v, t.kind with
  | .nrom, 0#2 => .ok (decodeNromRead t.addr)
  | .nrom, 1#2 => .ok (.nWr t.addr t.data)
  | .nrom, 2#2 => .ok (decodeNromPpu t.addr)
  | .mmc1, 0#2 => .ok (decodeMmc1Read t.addr)
  | .mmc1, 1#2 => .ok (decodeMmc1Write sc t.addr t.data)
  | .mmc1, 2#2 => .ok (decodeMmc1Ppu t.addr)
  | _, _ => .error (.notATransaction t)

/-- Construct by its mapper identifier (R88, R110, R111). -/
def decodeConstruct (mapperId : Nat) (cart : Cartridge) : Instr :=
  match mapperId with
  | 0 => .constructNrom cart
  | 1 => .constructMmc1 cart
  | n + 2 => .constructBad (n + 2)

/-- The operation a request is. -/
def decodeRequest (v : Variant) (sc : Nat) : Request → Except Reject Instr
  | .bus t => decodeWord v sc t
  | .construct mapperId cart => .ok (decodeConstruct mapperId cart)
  | .mapsChr => .ok .mapsChr

/-- The transaction word K A D (R80). -/
def Word26.pack (k : BitVec 2) (a : Addr) (d : Byte) : Word26 := k ++ a ++ d

/-- The word of a CpuRead: D is 0 in the canonical spelling (R80, R91). -/
def Word26.cpuRead (a : Addr) : Word26 := Word26.pack 0 a 0

/-- The word of a CpuWrite (R80, R91). -/
def Word26.cpuWrite (a : Addr) (d : Byte) : Word26 := Word26.pack 1 a d

/-- The word of a PpuRead: D is 0 in the canonical spelling (R80, R91). -/
def Word26.ppuRead (a : Addr) : Word26 := Word26.pack 2 a 0

/-- The transaction word of a bus operation; the operations of format LOAD, QUERY and INTERNAL have none (R80, R87). -/
def encodeWord : Instr → Option Word26
  | .nRdLow a | .nRdPrg a | .mRdLow a | .mRdRam a | .mRdPrg a => some (Word26.cpuRead a)
  | .nWr a d | .mWrIgn a d | .mWrRam a d | .mWrReset a d | .mWrShift a d => some (Word26.cpuWrite a d)
  | .mWrCommitCtrl a d | .mWrCommitChr0 a d | .mWrCommitChr1 a d | .mWrCommitPrg a d => some (Word26.cpuWrite a d)
  | .nChr a | .nChrOor a | .mChr a | .mChrOor a => some (Word26.ppuRead a)
  | .constructNrom _ | .constructMmc1 _ | .constructBad _ | .mapsChr | .recompute => none

/-- The request that issues an instruction. RECOMPUTE is internal and no request issues it (R87, R150). The cartridge of a
Construct with a bad identifier plays no part (R111). -/
def encode : Instr → Option Request
  | .nRdLow a | .nRdPrg a | .mRdLow a | .mRdRam a | .mRdPrg a => some (.bus (Word26.cpuRead a))
  | .nWr a d | .mWrIgn a d | .mWrRam a d | .mWrReset a d | .mWrShift a d => some (.bus (Word26.cpuWrite a d))
  | .mWrCommitCtrl a d | .mWrCommitChr0 a d | .mWrCommitChr1 a d | .mWrCommitPrg a d => some (.bus (Word26.cpuWrite a d))
  | .nChr a | .nChrOor a | .mChr a | .mChrOor a => some (.bus (Word26.ppuRead a))
  | .constructNrom c => some (.construct 0 c)
  | .constructMmc1 c => some (.construct 1 c)
  | .constructBad n => some (.construct n default)
  | .mapsChr => some .mapsChr
  | .recompute => none

/-- A row of the opcode table that has a transaction word (R87): T is in the row when `T & mask = match`. -/
structure Row where
  mnemonic : String
  variant  : Variant
  mask     : Word26
  pattern  : Word26
  minCount : Nat
  maxCount : Nat
deriving DecidableEq, Repr

/-- The bus rows of the NROM variant, as spec/opcode_table.json lists them. -/
def nromRows : List Row :=
  [ ⟨"N.RD.LOW", .nrom, 0x3800000, 0x0000000, 0, 4⟩,
    ⟨"N.RD.PRG", .nrom, 0x3800000, 0x0800000, 0, 4⟩,
    ⟨"N.WR", .nrom, 0x3000000, 0x1000000, 0, 4⟩,
    ⟨"N.CHR", .nrom, 0x3E00000, 0x2000000, 0, 4⟩,
    ⟨"N.CHR.OOR", .nrom, 0x3800000, 0x2800000, 0, 4⟩,
    ⟨"N.CHR.OOR", .nrom, 0x3C00000, 0x2400000, 0, 4⟩,
    ⟨"N.CHR.OOR", .nrom, 0x3E00000, 0x2200000, 0, 4⟩ ]

/-- The read rows of the MMC1 variant. -/
def mmc1ReadRows : List Row :=
  [ ⟨"M.RD.LOW", .mmc1, 0x3C00000, 0x0000000, 0, 4⟩,
    ⟨"M.RD.LOW", .mmc1, 0x3E00000, 0x0400000, 0, 4⟩,
    ⟨"M.RD.RAM", .mmc1, 0x3E00000, 0x0600000, 0, 4⟩,
    ⟨"M.RD.PRG", .mmc1, 0x3800000, 0x0800000, 0, 4⟩,
    ⟨"M.CHR", .mmc1, 0x3E00000, 0x2000000, 0, 4⟩,
    ⟨"M.CHR.OOR", .mmc1, 0x3800000, 0x2800000, 0, 4⟩,
    ⟨"M.CHR.OOR", .mmc1, 0x3C00000, 0x2400000, 0, 4⟩,
    ⟨"M.CHR.OOR", .mmc1, 0x3E00000, 0x2200000, 0, 4⟩ ]

/-- The write rows of the MMC1 variant. -/
def mmc1WriteRows : List Row :=
  [ ⟨"M.WR.IGN", .mmc1, 0x3C00000, 0x1000000, 0, 4⟩,
    ⟨"M.WR.IGN", .mmc1, 0x3E00000, 0x1400000, 0, 4⟩,
    ⟨"M.WR.RAM", .mmc1, 0x3E00000, 0x1600000, 0, 4⟩,
    ⟨"M.WR.RESET", .mmc1, 0x3800080, 0x1800080, 0, 4⟩,
    ⟨"M.WR.SHIFT", .mmc1, 0x3800080, 0x1800000, 0, 3⟩,
    ⟨"M.WR.COMMIT.CTRL", .mmc1, 0x3E00080, 0x1800000, 4, 4⟩,
    ⟨"M.WR.COMMIT.CHR0", .mmc1, 0x3E00080, 0x1A00000, 4, 4⟩,
    ⟨"M.WR.COMMIT.CHR1", .mmc1, 0x3E00080, 0x1C00000, 4, 4⟩,
    ⟨"M.WR.COMMIT.PRG", .mmc1, 0x3E00080, 0x1E00000, 4, 4⟩ ]

/-- The bus rows of the opcode table. -/
def busRows : List Row := nromRows ++ mmc1ReadRows ++ mmc1WriteRows

/-- A word is in a row, for a variant and a shiftCount (R87). -/
def Row.holds (r : Row) (v : Variant) (sc : Nat) (t : Word26) : Bool :=
  decide (r.variant = v) && decide (r.minCount ≤ sc) && decide (sc ≤ r.maxCount) && decide (t &&& r.mask = r.pattern)

/-- The mnemonic of an instruction, as the opcode table spells it. -/
def Instr.mnemonic : Instr → String
  | .nRdLow _ => "N.RD.LOW"
  | .nRdPrg _ => "N.RD.PRG"
  | .nWr _ _ => "N.WR"
  | .nChr _ => "N.CHR"
  | .nChrOor _ => "N.CHR.OOR"
  | .mRdLow _ => "M.RD.LOW"
  | .mRdRam _ => "M.RD.RAM"
  | .mRdPrg _ => "M.RD.PRG"
  | .mWrIgn _ _ => "M.WR.IGN"
  | .mWrRam _ _ => "M.WR.RAM"
  | .mWrReset _ _ => "M.WR.RESET"
  | .mWrShift _ _ => "M.WR.SHIFT"
  | .mWrCommitCtrl _ _ => "M.WR.COMMIT.CTRL"
  | .mWrCommitChr0 _ _ => "M.WR.COMMIT.CHR0"
  | .mWrCommitChr1 _ _ => "M.WR.COMMIT.CHR1"
  | .mWrCommitPrg _ _ => "M.WR.COMMIT.PRG"
  | .mChr _ => "M.CHR"
  | .mChrOor _ => "M.CHR.OOR"
  | .constructNrom _ => "CONSTRUCT.NROM"
  | .constructMmc1 _ => "CONSTRUCT.MMC1"
  | .constructBad _ => "CONSTRUCT.BAD"
  | .mapsChr => "MAPSCHR"
  | .recompute => "RECOMPUTE"

/-- The transaction word the opcode table's number stands for; a number that needs more than 26 bits spells no transaction, and
the refused word of kind 0b11 stands for it. -/
def tableWord (w : Nat) : Word26 := if w < 2 ^ 26 then BitVec.ofNat 26 w else 0x3000000

/-- The instruction the decoder reads from the word `w`, in the context of the block right after reset: the MMC1 variant with
shiftCount 0 (log 12). -/
def decodeTableWord (_nbits w : Nat) : Option Instr :=
  match decodeWord .mmc1 0 (tableWord w) with
  | .ok i => some i
  | .error _ => none

end Sys2Proof
end

