-- ==== Sys2Proof/Machine/Ops.lean ====
section
/-! DEFINITION. The named operations over memories and registers, the update of each state element, raising a fault (the one shared operation of 60_exceptions.md R176), the guard every operation starts with, and Recompute (43_offset_recompute.md R150). -/

namespace Sys2Proof

/-- The byte listed at offset `i`, if one is. -/
def Memory.read : Memory → Nat → Option Byte
  | [], _ => none
  | (j, b) :: m, i => if i = j then some b else Memory.read m i

/-- Store `b` at offset `i`, in place of any byte listed there, keeping the offsets rising. -/
def Memory.write : Memory → Nat → Byte → Memory
  | [], i, b => [(i, b)]
  | (j, c) :: m, i, b =>
    if i < j then (i, b) :: (j, c) :: m
    else if i = j then (i, b) :: m
    else (j, c) :: Memory.write m i b

/-- The byte PRG_ROM(off): the listed byte, or the free value where the image lists none (R6, R36; log 4). -/
def Cartridge.prgByte (c : Cartridge) (off : Nat) : Byte := (Memory.read c.prgRom off).getD (Config.prgRom c.serial off)

/-- The byte CHR_ROM(off) (R6, R36; log 4). -/
def Cartridge.chrByte (c : Cartridge) (off : Nat) : Byte := (Memory.read c.chrRom off).getD (Config.chrRom c.serial off)

end Sys2Proof

namespace Sys2Proof.Machine

/-- An outcome of this machine. -/
abbrev Out := Host.Outcome State Fault Refusal

/-! One update per state element; Laws/State.lean says what each leaves alone. -/

/-- The operation's answer. -/
def State.withResult (s : State) (r : Result) : State := { s with result := r }

/-- The fault condition. -/
def State.withFaulted (s : State) (f : Option FaultRecord) : State := { s with faulted := f }

/-- The protocol state: `shiftRegister` and `shiftCount`. -/
def State.withProtocol (s : State) (sr : Reg5) (sc : Nat) : State := { s with shiftRegister := sr, shiftCount := sc }

/-- `control`. -/
def State.withControl (s : State) (v : Reg5) : State := { s with control := v }

/-- `prgSelect`. -/
def State.withPrgSelect (s : State) (v : Reg5) : State := { s with prgSelect := v }

/-- `chr0Select`. -/
def State.withChr0Select (s : State) (v : Reg5) : State := { s with chr0Select := v }

/-- `chr1Select`. -/
def State.withChr1Select (s : State) (v : Reg5) : State := { s with chr1Select := v }

/-- The derived-offset RAM. -/
def State.withOffsets (s : State) (prg chr : Offsets) : State := { s with prgOffsets := prg, chrOffsets := chr }

/-- The program RAM. -/
def State.withPrgRam (s : State) (m : Memory) : State := { s with prgRam := m }

/-- The cartridge's mirroring cell. -/
def State.withMirroring (s : State) (m : Mirroring) : State := { s with cart := { s.cart with mirroring := m } }

/-- The trace still to come. -/
def State.withPending (s : State) (p : List Request) : State := { s with pending := p }

/-- The byte prgRam[i]: the byte last written or given at construction, or the free value of PRGRAM_INIT(i) (R35, R162; log 5). -/
def State.prgRamByte (s : State) (i : Nat) : Byte := (Memory.read s.prgRam i).getD (Config.prgRamInit s.cart.serial i)

/-- `return b` (R9). -/
def State.answerByte (s : State) (b : Byte) : Out := .next (s.withResult (.byte b))

/-- A completed mutation: no byte is returned (R55, R166). -/
def State.done (s : State) : Out := .next (s.withResult .nothing)

/-- Raising a fault (R176): nothing else is written, no byte is returned, and `faulted` is set with the record. That nothing is
answered from then on is `serve` and `step`. There is no return from a fault (R177). -/
def State.raise (s : State) (r : FaultRecord) : Out := .next ((s.withResult .nothing).withFaulted (some r))

/-- The tests every operation of a constructed block starts with (R178): a faulted block answers nothing; then the operation's
row must hold, that is its variant (R112) and the row's condition on operands and shiftCount (R87; log 11). -/
def State.serve (s : State) (v : Variant) (row : Bool) (k : Out) : Out :=
  match s.faulted with
  | some r => .fault (.halted r)
  | none => if s.variant = v ∧ row = true then k else .refused .notThisRow

/-- PrgRomRead(off) (R9): the byte when the offset is inside PRG_ROM, otherwise RomBoundsFault (R173). -/
def State.prgRomRead (s : State) (off : Nat) : Out :=
  if off < s.cart.prgSize then s.answerByte (s.cart.prgByte off) else s.raise (.romBounds .prg off)

/-- ChrRomRead(off) (R9): the byte when the offset is inside CHR_ROM, otherwise RomBoundsFault (R173). -/
def State.chrRomRead (s : State) (off : Nat) : Out :=
  if off < s.cart.chrSize then s.answerByte (s.cart.chrByte off) else s.raise (.romBounds .chr off)

/-- The pattern offsets of the registers: R151 (8 KiB mode) and R152 (4 KiB mode). -/
def chrOffsetsOf (control chr0 chr1 : Reg5) : Offsets :=
  if control.getLsbD 4 = false then
    ⟨0x1000 * (chr0 &&& 0x1E).toNat, 0x1000 * (chr0 &&& 0x1E).toNat + 0x1000⟩
  else
    ⟨0x1000 * (chr0 &&& 0x1F).toNat, 0x1000 * (chr1 &&& 0x1F).toNat⟩

/-- The program offsets of the registers: R153 (32 KiB mode), R154 (first bank fixed), R155 (last bank fixed). -/
def prgOffsetsOf (control prg : Reg5) (banks : Nat) : Offsets :=
  if control.getLsbD 3 = false then
    ⟨0x4000 * (prg &&& 0x0E).toNat, 0x4000 * (prg &&& 0x0E).toNat + 0x4000⟩
  else if control.getLsbD 2 = false then
    ⟨0, 0x4000 * prg.toNat⟩
  else
    ⟨0x4000 * prg.toNat, 0x4000 * (banks - 1)⟩

/-- Recompute() (R150): all four entries of the derived-offset RAM from the register file and PRG_BANKS, and nothing else. -/
def State.recomputed (s : State) : State :=
  s.withOffsets (prgOffsetsOf s.control s.prgSelect s.cart.prgBanks) (chrOffsetsOf s.control s.chr0Select s.chr1Select)

/-- The end of a commit (R135), after the store of the register: Recompute() and the clearing of the protocol state. -/
def State.committed (s : State) : Out := (s.recomputed.withProtocol 0 0).done

/-- Construct's preconditions (R193 (b); log 14), then the constructed state. -/
def constructWith (cart : Cartridge) (built : State) : Out :=
  if cart.prgBanks = 0 then .refused .noProgramBank
  else if cart.imagesWf then .next built
  else .refused .malformedImage

/-- The NROM variant built for a cartridge (R110): the trace still to come goes on. -/
def State.constructedNrom (s : State) (cart : Cartridge) : State :=
  { s with variant := .nrom, faulted := none, cart := cart, result := .nothing }

/-- The MMC1 variant built for a cartridge (R110, R40). -/
def State.constructedMmc1 (s : State) (cart : Cartridge) : State :=
  { s with
    variant := .mmc1
    control := 0x1C
    prgSelect := 0
    chr0Select := 0
    chr1Select := 0
    shiftRegister := 0
    shiftCount := 0
    prgOffsets := ⟨0, (cart.prgBanks - 1) * 0x4000⟩
    chrOffsets := ⟨0, 0⟩
    prgRam := cart.prgRamInit
    faulted := none
    cart := cart
    result := .nothing }

end Sys2Proof.Machine
end

