-- ==== Sys2Proof/Machine/Construct.lean ====
section
/-! DEFINITION. The dispatcher's own operations (40_dispatcher.md R110 to R113). -/

namespace Sys2Proof.Machine

/-- CONSTRUCT.NROM (R110): a new session, whatever the block was before (R177; log 9). -/
def execConstructNrom (cart : Cartridge) (s : State) : Out :=
  constructWith cart (s.constructedNrom cart)

/-- CONSTRUCT.MMC1 (R110): a new session in the state of R40. -/
def execConstructMmc1 (cart : Cartridge) (s : State) : Out :=
  constructWith cart (s.constructedMmc1 cart)

/-- CONSTRUCT.BAD (R111): the result is the fault, and there is no state to step from. -/
def execConstructBad (mapperId : Nat) (_s : State) : Out :=
  if 2 ≤ mapperId then .fault (.unsupportedMapper mapperId) else .refused .notThisRow

/-- MAPSCHR (R113), on either variant. -/
def execMapsChr (s : State) : Out :=
  s.serve s.variant true (.next (s.withResult (.flag (mapsChrOf s.variant))))

end Sys2Proof.Machine
end

