-- ==== Sys2Proof/Machine/Operands.lean ====
section
/-! DEFINITION. The operand forms: the address ranges of 20_memory.md R56 and R57, the windows and in-window offsets of R59, the program RAM index, the serial data bit and the value it shifts in (30_encoding.md R81 to R85). -/

namespace Sys2Proof

/-- CPU address below 0x6000 (R56). -/
def Addr.belowRam (a : Addr) : Bool := decide (a.toNat < 0x6000)

/-- CPU address 0x6000..0x7FFF (R56). -/
def Addr.inRam (a : Addr) : Bool := decide (0x6000 ≤ a.toNat) && decide (a.toNat ≤ 0x7FFF)

/-- CPU address below 0x8000 (R56, the NROM column). -/
def Addr.belowProgram (a : Addr) : Bool := decide (a.toNat < 0x8000)

/-- CPU address 0x8000..0xFFFF (R56). -/
def Addr.inProgram (a : Addr) : Bool := decide (0x8000 ≤ a.toNat)

/-- PPU address 0x0000..0x1FFF (R57). -/
def Addr.inPattern (a : Addr) : Bool := decide (a.toNat < 0x2000)

/-- The program RAM index A - 0x6000 (R132, R162). -/
def Addr.ramIndex (a : Addr) : Nat := a.toNat - 0x6000

/-- The program window (A - 0x8000) / 0x4000, 0 or 1 (R163). -/
def Addr.programWindow (a : Addr) : Nat := (a.toNat - 0x8000) / 0x4000

/-- The offset A & 0x3FFF inside a program window (R163). -/
def Addr.programOffset (a : Addr) : Nat := (a &&& 0x3FFF).toNat

/-- The pattern window A / 0x1000, 0 or 1 (R164). -/
def Addr.patternWindow (a : Addr) : Nat := a.toNat / 0x1000

/-- The offset A & 0xFFF inside a pattern window (R164). -/
def Addr.patternOffset (a : Addr) : Nat := (a &&& 0x0FFF).toNat

/-- The base NROM subtracts from a program address (R121): with one bank 0xC000 when the address is strictly above 0xC000. -/
def nromBase (banks : Nat) (a : Addr) : Nat :=
  if banks = 1 then (if 0xC000 < a.toNat then 0xC000 else 0x8000) else 0x8000

/-- The PRG_ROM offset NROM translates a program address to (R121). -/
def nromOffset (banks : Nat) (a : Addr) : Nat := a.toNat - nromBase banks a

/-- The data byte marks a reset write: D[7] = 1 (R85). -/
def Byte.isReset (d : Byte) : Bool := d.getLsbD 7

/-- One shift of the serial protocol, (sr >> 1) | ((D & 1) << 4) (R84, R134). -/
def shiftIn (sr : Reg5) (d : Byte) : Reg5 := (sr >>> 1) ||| ((d &&& 1).setWidth 5 <<< 4)

/-- The mirroring mode of control[1:0] (R37, R136). -/
def Mirroring.ofControl (v : Reg5) : Mirroring :=
  match v.extractLsb' 0 2 with
  | 0#2 => .oneScreenLow
  | 1#2 => .oneScreenHigh
  | 2#2 => .vertical
  | _ => .horizontal

/-- The 2-bit encoding of the mirroring cell (R37). -/
def Mirroring.bits : Mirroring → BitVec 2
  | .oneScreenLow => 0
  | .oneScreenHigh => 1
  | .vertical => 2
  | .horizontal => 3

end Sys2Proof

namespace Sys2Proof.Machine

/-- The entry of window `w` of a pair of the derived-offset RAM. -/
def Offsets.entry (o : Offsets) (w : Nat) : Nat := if w = 0 then o.w0 else o.w1

/-- The PRG_ROM offset MMC1 translates a program address to (R163). -/
def State.prgOffset (s : State) (a : Addr) : Nat := s.prgOffsets.entry a.programWindow + a.programOffset

/-- The CHR_ROM offset MMC1 translates a pattern address to (R164). -/
def State.chrOffset (s : State) (a : Addr) : Nat := s.chrOffsets.entry a.patternWindow + a.patternOffset

/-- The row of a committing write to register window `w`: 0x8000..0xFFFF, D[7] = 0, and shiftCount not below 4 (R86, R130, R135). -/
def State.commitRow (s : State) (w : BitVec 2) (a : Addr) (d : Byte) : Bool :=
  a.inProgram && decide (a.registerWindow = w) && !d.isReset && decide (4 ≤ s.shiftCount)

end Sys2Proof.Machine
end

