-- ==== Sys2Proof/Machine/Mmc1Read.lean ====
section
/-! DEFINITION. The read operations of the serial-protocol variant (44_read_paths.md R160 to R166). -/

namespace Sys2Proof.Machine

/-- M.RD.LOW (R161). -/
def execMRdLow (a : Addr) (s : State) : Out :=
  s.serve .mmc1 a.belowRam (s.raise (.addressRange .cpu a))

/-- M.RD.RAM (R162). -/
def execMRdRam (a : Addr) (s : State) : Out :=
  s.serve .mmc1 a.inRam (s.answerByte (s.prgRamByte a.ramIndex))

/-- M.RD.PRG (R163). -/
def execMRdPrg (a : Addr) (s : State) : Out :=
  s.serve .mmc1 a.inProgram (s.prgRomRead (s.prgOffset a))

/-- M.CHR (R164). -/
def execMChr (a : Addr) (s : State) : Out :=
  s.serve .mmc1 a.inPattern (s.chrRomRead (s.chrOffset a))

/-- M.CHR.OOR (R165). -/
def execMChrOor (a : Addr) (s : State) : Out :=
  s.serve .mmc1 (!a.inPattern) (s.raise (.addressRange .ppu a))

end Sys2Proof.Machine
end

