-- ==== Sys2Proof/Machine/Mmc1Write.lean ====
section
/-! DEFINITION. The write operations of the serial-protocol variant (42_serial_protocol_writes.md R130 to R140) and Recompute as an operation (43_offset_recompute.md R150). -/

namespace Sys2Proof.Machine

/-- M.WR.IGN (R131). -/
def execMWrIgn (a : Addr) (_d : Byte) (s : State) : Out :=
  s.serve .mmc1 a.belowRam s.done

/-- M.WR.RAM (R132). -/
def execMWrRam (a : Addr) (d : Byte) (s : State) : Out :=
  s.serve .mmc1 a.inRam (s.withPrgRam (Memory.write s.prgRam a.ramIndex d)).done

/-- M.WR.RESET (R133): clears the protocol state, forces control[3:2] to 0b11, recomputes. -/
def execMWrReset (a : Addr) (d : Byte) (s : State) : Out :=
  s.serve .mmc1 (a.inProgram && d.isReset)
    ((s.withProtocol 0 0).withControl (s.control ||| 0x0C)).recomputed.done

/-- M.WR.SHIFT (R134). -/
def execMWrShift (a : Addr) (d : Byte) (s : State) : Out :=
  s.serve .mmc1 (a.inProgram && !d.isReset && decide (s.shiftCount < 4))
    (s.withProtocol (shiftIn s.shiftRegister d) (s.shiftCount + 1)).done

/-- M.WR.COMMIT.CTRL (R135, R136): the only operation that writes the mirroring cell. -/
def execMWrCommitCtrl (a : Addr) (d : Byte) (s : State) : Out :=
  s.serve .mmc1 (s.commitRow 0 a d)
    ((s.withControl (shiftIn s.shiftRegister d)).withMirroring (.ofControl (shiftIn s.shiftRegister d))).committed

/-- M.WR.COMMIT.CHR0 (R135, R137). -/
def execMWrCommitChr0 (a : Addr) (d : Byte) (s : State) : Out :=
  s.serve .mmc1 (s.commitRow 1 a d) (s.withChr0Select (shiftIn s.shiftRegister d)).committed

/-- M.WR.COMMIT.CHR1 (R135, R138). -/
def execMWrCommitChr1 (a : Addr) (d : Byte) (s : State) : Out :=
  s.serve .mmc1 (s.commitRow 2 a d) (s.withChr1Select (shiftIn s.shiftRegister d)).committed

/-- M.WR.COMMIT.PRG (R135, R139). -/
def execMWrCommitPrg (a : Addr) (d : Byte) (s : State) : Out :=
  s.serve .mmc1 (s.commitRow 3 a d) (s.withPrgSelect (shiftIn s.shiftRegister d)).committed

/-- RECOMPUTE (R150), the internal operation on its own: it runs inside the reset write and every commit, and no request issues it. -/
def execRecompute (s : State) : Out :=
  s.serve .mmc1 true s.recomputed.done

end Sys2Proof.Machine
end

