-- ==== Sys2Proof/Machine/Nrom.lean ====
section
/-! DEFINITION. The operations of the fixed-mapping variant (41_fixed_mapping.md R120 to R125). -/

namespace Sys2Proof.Machine

/-- N.RD.LOW (R122). -/
def execNRdLow (a : Addr) (s : State) : Out :=
  s.serve .nrom a.belowProgram (s.raise (.addressRange .cpu a))

/-- N.RD.PRG (R121). -/
def execNRdPrg (a : Addr) (s : State) : Out :=
  s.serve .nrom a.inProgram (s.prgRomRead (nromOffset s.cart.prgBanks a))

/-- N.WR (R123): no effect at any address, with any data. -/
def execNWr (_a : Addr) (_d : Byte) (s : State) : Out :=
  s.serve .nrom true s.done

/-- N.CHR (R124): the pattern address goes to CHR_ROM unchanged. -/
def execNChr (a : Addr) (s : State) : Out :=
  s.serve .nrom a.inPattern (s.chrRomRead a.toNat)

/-- N.CHR.OOR (R125). -/
def execNChrOor (a : Addr) (s : State) : Out :=
  s.serve .nrom (!a.inPattern) (s.raise (.addressRange .ppu a))

end Sys2Proof.Machine
end

