-- ==== Sys2Proof/Machine/Dispatch.lean ====
section
/-! DEFINITION. One arm per constructor of Instr. -/

namespace Sys2Proof.Machine

def exec (i : Instr) (s : State) : Host.Outcome State Fault Refusal :=
  match i with
  | .nRdLow a => Sys2Proof.Machine.execNRdLow a s
  | .nRdPrg a => Sys2Proof.Machine.execNRdPrg a s
  | .nWr a d => Sys2Proof.Machine.execNWr a d s
  | .nChr a => Sys2Proof.Machine.execNChr a s
  | .nChrOor a => Sys2Proof.Machine.execNChrOor a s
  | .mRdLow a => Sys2Proof.Machine.execMRdLow a s
  | .mRdRam a => Sys2Proof.Machine.execMRdRam a s
  | .mRdPrg a => Sys2Proof.Machine.execMRdPrg a s
  | .mWrIgn a d => Sys2Proof.Machine.execMWrIgn a d s
  | .mWrRam a d => Sys2Proof.Machine.execMWrRam a d s
  | .mWrReset a d => Sys2Proof.Machine.execMWrReset a d s
  | .mWrShift a d => Sys2Proof.Machine.execMWrShift a d s
  | .mWrCommitCtrl a d => Sys2Proof.Machine.execMWrCommitCtrl a d s
  | .mWrCommitChr0 a d => Sys2Proof.Machine.execMWrCommitChr0 a d s
  | .mWrCommitChr1 a d => Sys2Proof.Machine.execMWrCommitChr1 a d s
  | .mWrCommitPrg a d => Sys2Proof.Machine.execMWrCommitPrg a d s
  | .mChr a => Sys2Proof.Machine.execMChr a s
  | .mChrOor a => Sys2Proof.Machine.execMChrOor a s
  | .constructNrom cart => Sys2Proof.Machine.execConstructNrom cart s
  | .constructMmc1 cart => Sys2Proof.Machine.execConstructMmc1 cart s
  | .constructBad mapperId => Sys2Proof.Machine.execConstructBad mapperId s
  | .mapsChr => Sys2Proof.Machine.execMapsChr s
  | .recompute => Sys2Proof.Machine.execRecompute s

end Sys2Proof.Machine
end

