-- ==== Sys2Proof/Machine/Fetch.lean ====
section
/-! DEFINITION. Taking the oldest operation of the trace and decoding it for the block as it stands (20_memory.md R61, 30_encoding.md R87). -/

namespace Sys2Proof.Machine

/-- The operation a request is, for the constructed variant and the present shiftCount (R87). -/
def State.decodeFor (s : State) (r : Request) : Except Reject Instr := decodeRequest s.variant s.shiftCount r

/-- A step with nothing pending: the block does nothing between operations (R51, R181), but a faulted block is halted (R176 (d)). -/
def State.idle (s : State) : Out :=
  match s.faulted with
  | none => .next s
  | some r => .fault (.halted r)

/-- What a request that spells no operation ends in (R89). -/
def Reject.toRefusal : Reject → Refusal
  | .notATransaction t => .notATransaction t

end Sys2Proof.Machine
end

