-- ==== Sys2Proof/Machine/Step.lean ====
section
/-! DEFINITION. One step: the oldest pending operation, whole (20_memory.md R55, R61). -/

namespace Sys2Proof.Machine

/-- One operation is one atomic step (R55, R205): the oldest pending request leaves the trace and is performed. -/
def step (s : State) : Host.Outcome State Fault Refusal :=
  match s.pending with
  | [] => s.idle
  | r :: rest =>
    match s.decodeFor r with
    | .error e => .refused (Reject.toRefusal e)
    | .ok i => exec i (s.withPending rest)

/-- `s` with the transaction word `w` issued as its next operation (log 13). -/
def State.withFetchWord (s : State) (_nbits w : Nat) : State :=
  s.withPending (.bus (tableWord w) :: s.pending)

end Sys2Proof.Machine
end

