-- ==== Sys2Proof/Safety.lean ====
section
/-! DEFINITION. The invariant of 10_state.md R39 with the model's own conditions on its data, and what a safe run is. -/

namespace Sys2Proof.Machine

/-- R39 (a) and (b): shiftCount is 0 to 4, and only the top shiftCount bits of the shift register can be non-zero. -/
abbrev State.protocolSound (s : State) : Prop :=
  s.shiftCount ≤ 4 ∧ s.shiftRegister.toNat % 2 ^ (5 - s.shiftCount) = 0

/-- R39 (d), R33: the derived offsets are the function of the registers and PRG_BANKS, never stale. -/
abbrev State.offsetsFresh (s : State) : Prop :=
  s.prgOffsets = prgOffsetsOf s.control s.prgSelect s.cart.prgBanks ∧
    s.chrOffsets = chrOffsetsOf s.control s.chr0Select s.chr1Select

/-- The faults a session can raise (R171): every one but UnsupportedMapperFault, which occurs only at construction. -/
def FaultRecord.ofSession : FaultRecord → Bool
  | .unsupportedMapper _ => false
  | .addressRange _ _ => true
  | .romBounds _ _ => true

/-- R171: no session holds the record of UnsupportedMapperFault. -/
abbrev State.faultOfSession (s : State) : Prop := s.faulted.all FaultRecord.ofSession = true

/-- The invariant of the machine: R39 for the MMC1 variant, a cartridge that meets R193, a canonical program RAM, and a fault
record that a session can hold. -/
abbrev State.Inv (s : State) : Prop :=
  (s.variant = .mmc1 → s.protocolSound ∧ s.offsetsFresh) ∧
    s.cart.wf = true ∧ Memory.wf prgRamSize s.prgRam = true ∧ s.faultOfSession

/-- The block is constructed as variant `v` and answers operations. -/
abbrev State.answers (s : State) (v : Variant) : Prop := s.variant = v ∧ s.faulted = none

/-- `k` steps, stopping at the first fault or refusal, as Host.Core.run counts them (Laws/Step.lean). -/
def State.run : Nat → State → Out
  | 0, s => .next s
  | k + 1, s =>
    match step s with
    | .next t => State.run k t
    | .fault r => .fault r
    | .refused r => .refused r

/-- A run is safe at a state that meets the invariant with `faulted` clear (R176, R206). -/
abbrev State.safe (s : State) : Prop := s.Inv ∧ s.faulted = none

end Sys2Proof.Machine
end

