-- ==== Sys2Proof/Certificates/Slice0/Obligations.lean ====
section
/-! DEFINITION. The statements for the provers: what the operations do, what the block never does, decoding, and the invariant. Every statement holds for every state it does not exclude by a named hypothesis. -/

open Sys2Proof Sys2Proof.Machine

/-! ## The words of the statements -/

namespace Sys2Proof.Claims

/-- The operations that begin a new session (R110). -/
def isConstruct : Instr → Bool
  | .nRdLow _ | .nRdPrg _ | .nChr _ | .nChrOor _ => false
  | .nWr _ _ => false
  | .mRdLow _ | .mRdRam _ | .mRdPrg _ | .mChr _ | .mChrOor _ => false
  | .mWrIgn _ _ | .mWrRam _ _ | .mWrReset _ _ | .mWrShift _ _ => false
  | .mWrCommitCtrl _ _ | .mWrCommitChr0 _ _ | .mWrCommitChr1 _ _ | .mWrCommitPrg _ _ => false
  | .constructNrom _ | .constructMmc1 _ | .constructBad _ => true
  | .mapsChr => false
  | .recompute => false

/-- The reads of both ports, and MapsChr (R55 (a)). -/
def isRead : Instr → Bool
  | .nRdLow _ | .nRdPrg _ | .nChr _ | .nChrOor _ => true
  | .nWr _ _ => false
  | .mRdLow _ | .mRdRam _ | .mRdPrg _ | .mChr _ | .mChrOor _ => true
  | .mWrIgn _ _ | .mWrRam _ _ | .mWrReset _ _ | .mWrShift _ _ => false
  | .mWrCommitCtrl _ _ | .mWrCommitChr0 _ _ | .mWrCommitChr1 _ _ | .mWrCommitPrg _ _ => false
  | .constructNrom _ | .constructMmc1 _ | .constructBad _ => false
  | .mapsChr => true
  | .recompute => false

/-- The bus writes of both variants (R123, R131 to R139). -/
def isWrite : Instr → Bool
  | .nRdLow _ | .nRdPrg _ | .nChr _ | .nChrOor _ => false
  | .nWr _ _ => true
  | .mRdLow _ | .mRdRam _ | .mRdPrg _ | .mChr _ | .mChrOor _ => false
  | .mWrIgn _ _ | .mWrRam _ _ | .mWrReset _ _ | .mWrShift _ _ => true
  | .mWrCommitCtrl _ _ | .mWrCommitChr0 _ _ | .mWrCommitChr1 _ _ | .mWrCommitPrg _ _ => true
  | .constructNrom _ | .constructMmc1 _ | .constructBad _ => false
  | .mapsChr => false
  | .recompute => false

/-- The operations after which the mirroring cell holds a value of their own: the commit to control (R37), and a construction, after
which it is the new cartridge's. The second is the model's choice (log 9): construction itself does not write the cell (R110). -/
def setsMirroring : Instr → Bool
  | .nRdLow _ | .nRdPrg _ | .nChr _ | .nChrOor _ => false
  | .nWr _ _ => false
  | .mRdLow _ | .mRdRam _ | .mRdPrg _ | .mChr _ | .mChrOor _ => false
  | .mWrIgn _ _ | .mWrRam _ _ | .mWrReset _ _ | .mWrShift _ _ => false
  | .mWrCommitCtrl _ _ => true
  | .mWrCommitChr0 _ _ | .mWrCommitChr1 _ _ | .mWrCommitPrg _ _ => false
  | .constructNrom _ | .constructMmc1 _ | .constructBad _ => true
  | .mapsChr => false
  | .recompute => false

/-- The value the fifth shift of a commit leaves (R135): the register moved down one place, D[0] at bit 4. -/
def shifted (sr : Reg5) (d : Byte) : Reg5 := BitVec.ofNat 5 (sr.toNat / 2 + 16 * (d.toNat % 2))

/-- The mirroring mode of a committed value (R136): 0 OneScreenLow, 1 OneScreenHigh, 2 Vertical, 3 Horizontal. -/
def mirroringOf (v : Reg5) : Mirroring :=
  if v.toNat % 4 = 0 then .oneScreenLow
  else if v.toNat % 4 = 1 then .oneScreenHigh
  else if v.toNat % 4 = 2 then .vertical
  else .horizontal

/-- The program offsets of R153 to R155, in plain arithmetic. -/
def prgTable (control prg : Reg5) (banks : Nat) : Offsets :=
  if control.toNat / 8 % 2 = 0 then ⟨0x8000 * (prg.toNat / 2 % 8), 0x8000 * (prg.toNat / 2 % 8) + 0x4000⟩
  else if control.toNat / 4 % 2 = 0 then ⟨0, 0x4000 * prg.toNat⟩
  else ⟨0x4000 * prg.toNat, 0x4000 * (banks - 1)⟩

/-- The pattern offsets of R151 and R152, in plain arithmetic. -/
def chrTable (control chr0 chr1 : Reg5) : Offsets :=
  if control.toNat / 16 % 2 = 0 then ⟨0x2000 * (chr0.toNat / 2), 0x2000 * (chr0.toNat / 2) + 0x1000⟩
  else ⟨0x1000 * chr0.toNat, 0x1000 * chr1.toNat⟩

/-- The NROM translation of R121. -/
def nromTable (banks a : Nat) : Nat :=
  if banks = 1 ∧ 0xC000 < a then a - 0xC000 else a - 0x8000

/-- PRG_ROM(off) (R6, R36): the byte the cartridge's program image lists at that offset, or the free value of log 4. -/
def prgRomAt (c : Cartridge) (off : Nat) : Byte := (Memory.read c.prgRom off).getD (Config.prgRom c.serial off)

/-- CHR_ROM(off) (R6, R36): the byte the cartridge's pattern image lists at that offset, or the free value of log 4. -/
def chrRomAt (c : Cartridge) (off : Nat) : Byte := (Memory.read c.chrRom off).getD (Config.chrRom c.serial off)

/-- A read of PRG_ROM at `off` (R9): the byte, or RomBoundsFault(PRG, off) with nothing else written. -/
def prgRead (s : State) (off : Nat) : State :=
  if off < s.cart.prgBanks * 0x4000 then { s with result := .byte (prgRomAt s.cart off) }
  else { s with result := .nothing, faulted := some (.romBounds .prg off) }

/-- A read of CHR_ROM at `off` (R9): the byte, or RomBoundsFault(CHR, off) with nothing else written. -/
def chrRead (s : State) (off : Nat) : State :=
  if off < s.cart.chrSize then { s with result := .byte (chrRomAt s.cart off) }
  else { s with result := .nothing, faulted := some (.romBounds .chr off) }

/-- The state after a commit (R135): Recompute() and the protocol state cleared, on a state whose target register is stored. -/
def afterCommit (s : State) : State :=
  { s with
    prgOffsets := prgTable s.control s.prgSelect s.cart.prgBanks
    chrOffsets := chrTable s.control s.chr0Select s.chr1Select
    shiftRegister := 0
    shiftCount := 0
    result := .nothing }

/-- The target of a commit at address `a` (R83, R136 to R139) stored with `v`, the mirroring cell with it for control. -/
def stored (s : State) (a : Nat) (v : Reg5) : State :=
  if a ≤ 0x9FFF then { s with control := v, cart := { s.cart with mirroring := mirroringOf v } }
  else if a ≤ 0xBFFF then { s with chr0Select := v }
  else if a ≤ 0xDFFF then { s with chr1Select := v }
  else { s with prgSelect := v }

/-- A request that is a shift write: a CpuWrite to 0x8000..0xFFFF with D[7] = 0 (R134). -/
def isShiftOf (r : Request) (a : Addr) (d : Byte) : Prop :=
  r = .bus (Word26.cpuWrite a d) ∧ 0x8000 ≤ a.toNat ∧ d.toNat < 0x80

/-- A request that leaves the protocol state alone (R90, R140): a read on either port, a write below 0x8000, or MapsChr. -/
def isNeutral : Request → Bool
  | .bus t => t.kind ≠ 1 || t.addr.toNat < 0x8000
  | .construct _ _ => false
  | .mapsChr => true

/-- The 5-bit value of five data bytes, the first in bit 0 (R84). -/
def assembled (d0 d1 d2 d3 d4 : Byte) : Reg5 :=
  BitVec.ofNat 5 (d0.toNat % 2 + 2 * (d1.toNat % 2) + 4 * (d2.toNat % 2) + 8 * (d3.toNat % 2) + 16 * (d4.toNat % 2))

end Sys2Proof.Claims

open Sys2Proof.Claims

/-! ## Reset and construction -/

/-- 10_state.md R40 for State.reset, with decisions D5, D11 and D12 of the spec: the table's values. That the reset block is MMC1, its
PRG_BANKS, CHR_SIZE, empty images and empty trace are the model's choices (logs 1 to 6). -/
def Obligations.ResetHoldsTheTableOfR40 : Prop :=
  State.reset.variant = .mmc1 ∧ State.reset.control = 0x1C ∧ State.reset.prgSelect = 0 ∧ State.reset.chr0Select = 0 ∧
    State.reset.chr1Select = 0 ∧ State.reset.shiftRegister = 0 ∧ State.reset.shiftCount = 0 ∧
    State.reset.prgOffsets = ⟨0, (State.reset.cart.prgBanks - 1) * 0x4000⟩ ∧ State.reset.chrOffsets = ⟨0, 0⟩ ∧
    State.reset.faulted = none ∧ State.reset.cart.mirroring = Config.mirroringInit ∧ State.reset.pending = [] ∧
    ∀ i, i < 0x2000 → State.reset.prgRamByte i = Config.prgRamInit State.reset.cart.serial i

/-- 40_dispatcher.md R110, 10_state.md R40, with decisions D5 and D11 of the spec: Construct with identifier 0 or 1 builds the variant in
the state of the table. That it may follow another session, and that the trace goes on, are the model's (log 9). -/
def Obligations.ConstructionBuildsTheVariant : Prop :=
  ∀ (cart : Cartridge) (s : State), cart.wf = true →
    (∃ t, exec (.constructMmc1 cart) s = .next t ∧ t.variant = .mmc1 ∧ t.control = 0x1C ∧ t.prgSelect = 0 ∧ t.chr0Select = 0 ∧
      t.chr1Select = 0 ∧ t.shiftRegister = 0 ∧ t.shiftCount = 0 ∧ t.prgOffsets = ⟨0, (cart.prgBanks - 1) * 0x4000⟩ ∧
      t.chrOffsets = ⟨0, 0⟩ ∧ t.faulted = none ∧ t.cart = cart ∧ t.pending = s.pending ∧ t.result = .nothing ∧
      ∀ i, i < 0x2000 → t.prgRamByte i = (Memory.read cart.prgRamInit i).getD (Config.prgRamInit cart.serial i)) ∧
    exec (.constructNrom cart) s = .next { s with variant := .nrom, faulted := none, cart := cart, result := .nothing }

/-- 40_dispatcher.md R111: any other identifier is UnsupportedMapperFault, and there is no state to step from. -/
def Obligations.UnsupportedIdentifierStops : Prop :=
  ∀ (mapperId : Nat) (s : State), 2 ≤ mapperId → exec (.constructBad mapperId) s = .fault (.unsupportedMapper mapperId)

/-- What the loader owes the block, 70_reset_and_hazards.md R193 (b) with decision D14 of the spec; that a broken debt is a refusal, and
its names, are the model's choice (log 14). -/
def Obligations.ConstructionRefusesABrokenCartridge : Prop :=
  ∀ (cart : Cartridge) (s : State),
    (cart.prgBanks = 0 → exec (.constructMmc1 cart) s = .refused .noProgramBank ∧
      exec (.constructNrom cart) s = .refused .noProgramBank) ∧
    (1 ≤ cart.prgBanks → cart.imagesWf = false → exec (.constructMmc1 cart) s = .refused .malformedImage ∧
      exec (.constructNrom cart) s = .refused .malformedImage)

/-- 40_dispatcher.md R113: MapsChr answers false on NROM and true on MMC1, and writes nothing; it is a constant of the session. -/
def Obligations.MapsChrIsAConstantOfTheVariant : Prop :=
  (∀ s : State, s.faulted = none →
    (s.variant = .nrom → exec .mapsChr s = .next { s with result := .flag false }) ∧
    (s.variant = .mmc1 → exec .mapsChr s = .next { s with result := .flag true })) ∧
  ∀ (i : Instr) (s t : State), exec i s = .next t → isConstruct i = false → mapsChrOf t.variant = mapsChrOf s.variant

/-- 40_dispatcher.md R112, 10_state.md R21, R36: within a session the variant and every parameter stay, the ROM bytes included. The model
keeps them in State (log 15). -/
def Obligations.SessionKeepsVariantAndParameters : Prop :=
  ∀ (i : Instr) (s t : State), exec i s = .next t → isConstruct i = false →
    t.variant = s.variant ∧ t.cart = { s.cart with mirroring := t.cart.mirroring }

/-! ## The fixed-mapping variant -/

/-- 41_fixed_mapping.md R121: a program read subtracts the base and reads PRG_ROM there. RomBoundsFault beyond the ROM, at A = 0xC000 with
one bank too, is the spec's own decision (D7, D8). -/
def Obligations.NromProgramReadFollowsItsBase : Prop :=
  ∀ (a : Addr) (s : State), s.answers .nrom → 0x8000 ≤ a.toNat →
    exec (.nRdPrg a) s = .next (prgRead s (nromTable s.cart.prgBanks a.toNat))

/-- 41_fixed_mapping.md R126, derived by the spec from R121 under its decision D7: one bank is mirrored on 0x8001..0xBFFF; two banks read
linearly. -/
def Obligations.NromMirrorsOneBankAndReadsTwoLinearly : Prop :=
  ∀ (a : Addr) (s : State), s.answers .nrom →
    (s.cart.prgBanks = 1 → 0x8001 ≤ a.toNat → a.toNat ≤ 0xBFFF →
      exec (.nRdPrg a) s = exec (.nRdPrg (a + 0x4000)) s ∧
      exec (.nRdPrg a) s = .next { s with result := .byte (prgRomAt s.cart (a.toNat - 0x8000)) }) ∧
    (s.cart.prgBanks = 2 → ∀ k, k ≤ 0x7FFF →
      exec (.nRdPrg (BitVec.ofNat 16 (0x8000 + k))) s = .next { s with result := .byte (prgRomAt s.cart k) })

/-- 41_fixed_mapping.md R122: a CPU read below 0x8000 raises AddressRangeFault(CPU, A), the spec's own decision D9. -/
def Obligations.NromLowReadFaults : Prop :=
  ∀ (a : Addr) (s : State), s.answers .nrom → a.toNat < 0x8000 →
    exec (.nRdLow a) s = .next { s with result := .nothing, faulted := some (.addressRange .cpu a) }

/-- 41_fixed_mapping.md R123: a write has no effect, at any address, with any data; below 0x8000 by the spec's own decision D6. -/
def Obligations.NromWritesDoNothing : Prop :=
  ∀ (a : Addr) (d : Byte) (s : State), s.answers .nrom → exec (.nWr a d) s = .next { s with result := .nothing }

/-- 41_fixed_mapping.md R124: the pattern address goes to CHR_ROM unchanged; RomBoundsFault beyond it is the spec's own decision D8. -/
def Obligations.NromPatternReadPassesThrough : Prop :=
  ∀ (a : Addr) (s : State), s.answers .nrom → a.toNat ≤ 0x1FFF → exec (.nChr a) s = .next (chrRead s a.toNat)

/-- 41_fixed_mapping.md R125: a pattern read at or above 0x2000 raises AddressRangeFault(PPU, A), the spec's own decision D9. -/
def Obligations.NromPatternReadOutOfRangeFaults : Prop :=
  ∀ (a : Addr) (s : State), s.answers .nrom → 0x2000 ≤ a.toNat →
    exec (.nChrOor a) s = .next { s with result := .nothing, faulted := some (.addressRange .ppu a) }

/-- 41_fixed_mapping.md R120, 10_state.md R22: the variant has no state but `faulted`. Its operations write nothing else, and what they
answer is a function of the cartridge's parameters, `faulted` and the operation (the idle fields of State are log 16). -/
def Obligations.NromBlockHasNoStateOfItsOwn : Prop :=
  ∀ (i : Instr) (s s' t : State), s.variant = .nrom → s'.variant = .nrom → s'.cart = { s.cart with mirroring := s'.cart.mirroring } →
    s'.faulted = s.faulted → isConstruct i = false → exec i s = .next t →
    t = { s with result := t.result, faulted := t.faulted } ∧
      exec i s' = .next { s' with result := t.result, faulted := t.faulted }

/-! ## The serial-protocol variant: reads -/

/-- 44_read_paths.md R161: a CPU read below 0x6000 raises AddressRangeFault(CPU, A), the spec's own decision D9. -/
def Obligations.Mmc1LowReadFaults : Prop :=
  ∀ (a : Addr) (s : State), s.answers .mmc1 → a.toNat < 0x6000 →
    exec (.mRdLow a) s = .next { s with result := .nothing, faulted := some (.addressRange .cpu a) }

/-- 44_read_paths.md R162: the program RAM byte of A - 0x6000, or PRGRAM_INIT where none was written (the spec's own decision D11; a free
value, log 5). -/
def Obligations.ProgramRamReadReturnsItsByte : Prop :=
  ∀ (a : Addr) (s : State), s.answers .mmc1 → 0x6000 ≤ a.toNat → a.toNat ≤ 0x7FFF →
    exec (.mRdRam a) s = .next { s with result := .byte ((Memory.read s.prgRam (a.toNat - 0x6000)).getD
      (Config.prgRamInit s.cart.serial (a.toNat - 0x6000))) }

/-- 44_read_paths.md R163: a program read goes through the offset of its window; RomBoundsFault beyond the ROM is the spec's own decision D8. -/
def Obligations.Mmc1ProgramReadUsesItsWindow : Prop :=
  ∀ (a : Addr) (s : State), s.answers .mmc1 →
    (0x8000 ≤ a.toNat → a.toNat ≤ 0xBFFF →
      exec (.mRdPrg a) s = .next (prgRead s (s.prgOffsets.w0 + (a.toNat - 0x8000)))) ∧
    (0xC000 ≤ a.toNat → exec (.mRdPrg a) s = .next (prgRead s (s.prgOffsets.w1 + (a.toNat - 0xC000))))

/-- 44_read_paths.md R164: a pattern read goes through the offset of its window; RomBoundsFault beyond the ROM is the spec's own decision D8. -/
def Obligations.Mmc1PatternReadUsesItsWindow : Prop :=
  ∀ (a : Addr) (s : State), s.answers .mmc1 →
    (a.toNat ≤ 0x0FFF → exec (.mChr a) s = .next (chrRead s (s.chrOffsets.w0 + a.toNat))) ∧
    (0x1000 ≤ a.toNat → a.toNat ≤ 0x1FFF →
      exec (.mChr a) s = .next (chrRead s (s.chrOffsets.w1 + (a.toNat - 0x1000))))

/-- 44_read_paths.md R165: a pattern read at or above 0x2000 raises AddressRangeFault(PPU, A), the spec's own decision D9. -/
def Obligations.Mmc1PatternReadOutOfRangeFaults : Prop :=
  ∀ (a : Addr) (s : State), s.answers .mmc1 → 0x2000 ≤ a.toNat →
    exec (.mChrOor a) s = .next { s with result := .nothing, faulted := some (.addressRange .ppu a) }

/-- 70_reset_and_hazards.md R192, derived by the spec from R40 with its decision D5: after construction and before any write, window 0 shows
bank 0, window 1 the last bank, and both pattern windows the first 4 KiB of CHR_ROM. -/
def Obligations.ConstructedBlockShowsFirstAndLastBank : Prop :=
  ∀ (cart : Cartridge) (s : State) (a : Addr), cart.wf = true →
    ∃ t, exec (.constructMmc1 cart) s = .next t ∧
      (0x8000 ≤ a.toNat → a.toNat ≤ 0xBFFF →
        exec (.mRdPrg a) t = .next { t with result := .byte (prgRomAt cart (a.toNat - 0x8000)) }) ∧
      (0xC000 ≤ a.toNat →
        exec (.mRdPrg a) t = .next { t with result := .byte (prgRomAt cart ((cart.prgBanks - 1) * 0x4000 + (a.toNat - 0xC000))) }) ∧
      (0x1000 ≤ cart.chrSize → a.toNat ≤ 0x1FFF →
        exec (.mChr a) t = .next { t with result := .byte (chrRomAt cart (a.toNat % 0x1000)) })

/-! ## The serial-protocol variant: writes -/

/-- 42_serial_protocol_writes.md R131: a write below 0x6000 is ignored. -/
def Obligations.LowWriteIsIgnored : Prop :=
  ∀ (a : Addr) (d : Byte) (s : State), s.answers .mmc1 → a.toNat < 0x6000 →
    exec (.mWrIgn a d) s = .next { s with result := .nothing }

/-- 42_serial_protocol_writes.md R132: one byte of the program RAM is stored at A - 0x6000, and nothing else changes; that 0x7FFF is
included is the spec's own decision D4. -/
def Obligations.ProgramRamWriteStoresOneByte : Prop :=
  ∀ (a : Addr) (d : Byte) (s : State), s.answers .mmc1 → 0x6000 ≤ a.toNat → a.toNat ≤ 0x7FFF →
    ∃ t, exec (.mWrRam a d) s = .next t ∧ t.prgRamByte (a.toNat - 0x6000) = d ∧
      (∀ j, j ≠ a.toNat - 0x6000 → t.prgRamByte j = s.prgRamByte j) ∧
      t = { s with prgRam := t.prgRam, result := .nothing }

/-- 20_memory.md R64 for the program RAM (property S6 of 95_test_vectors.md): a byte written is seen by the next read of that address, and
by no read of another; 0x7FFF included by the spec's own decision D4. -/
def Obligations.ProgramRamReadSeesTheWrite : Prop :=
  ∀ (a b : Addr) (d : Byte) (s : State), s.answers .mmc1 → 0x6000 ≤ a.toNat → a.toNat ≤ 0x7FFF → 0x6000 ≤ b.toNat → b.toNat ≤ 0x7FFF →
    ∃ t u, exec (.mWrRam a d) s = .next t ∧ exec (.mRdRam b) t = .next u ∧
      u.result = .byte (if a = b then d else s.prgRamByte (b.toNat - 0x6000))

/-- 10_state.md R35, R20: nothing but a program RAM write and a construction changes a byte of the program RAM. -/
def Obligations.OnlyRamWritesChangeTheProgramRam : Prop :=
  ∀ (i : Instr) (s t : State), exec i s = .next t → isConstruct i = false → (∀ a d, i ≠ .mWrRam a d) →
    t.prgRam = s.prgRam ∧ ∀ j, t.prgRamByte j = s.prgRamByte j

/-- 42_serial_protocol_writes.md R133: the reset write clears the protocol state, forces control[3:2], recomputes, and nothing else;
with control[3:2] already 0b11 and shiftCount 0, at a state that meets the invariant, it changes nothing (corner case (e)). -/
def Obligations.ResetWriteClearsTheProtocol : Prop :=
  ∀ (a : Addr) (d : Byte) (s : State), s.answers .mmc1 → 0x8000 ≤ a.toNat → 0x80 ≤ d.toNat →
    exec (.mWrReset a d) s = .next { s with
      shiftRegister := 0
      shiftCount := 0
      control := s.control ||| 0x0C
      prgOffsets := ⟨0x4000 * s.prgSelect.toNat, 0x4000 * (s.cart.prgBanks - 1)⟩
      chrOffsets := chrTable s.control s.chr0Select s.chr1Select
      result := .nothing } ∧
    (s.Inv → s.shiftCount = 0 → s.control.toNat / 4 % 4 = 3 → exec (.mWrReset a d) s = .next { s with result := .nothing })

/-- 42_serial_protocol_writes.md R134: a shift write with shiftCount 0 to 3 moves the register down, enters D[0] at bit 4, and counts;
the bit it loses is 0 at a state that meets the invariant (corner case (a)). -/
def Obligations.ShiftWriteShiftsOneBit : Prop :=
  ∀ (a : Addr) (d : Byte) (s : State), s.answers .mmc1 → 0x8000 ≤ a.toNat → d.toNat < 0x80 → s.shiftCount ≤ 3 →
    exec (.mWrShift a d) s = .next { s with
      shiftRegister := shifted s.shiftRegister d
      shiftCount := s.shiftCount + 1
      result := .nothing } ∧
    (s.Inv → s.shiftRegister.toNat % 2 = 0)

/-- 42_serial_protocol_writes.md R135, R136: the commit to control, with the mirroring write-back; 0x9FFF included by the spec's own
decision D4. -/
def Obligations.CommitToControlWritesMirroring : Prop :=
  ∀ (a : Addr) (d : Byte) (s : State), s.answers .mmc1 → 0x8000 ≤ a.toNat → a.toNat ≤ 0x9FFF → d.toNat < 0x80 → s.shiftCount = 4 →
    exec (.mWrCommitCtrl a d) s = .next (afterCommit { s with
      control := shifted s.shiftRegister d
      cart := { s.cart with mirroring := mirroringOf (shifted s.shiftRegister d) } })

/-- 42_serial_protocol_writes.md R135, R137: the commit to chr0Select; 0xBFFF included by the spec's own decision D4. -/
def Obligations.CommitToChr0 : Prop :=
  ∀ (a : Addr) (d : Byte) (s : State), s.answers .mmc1 → 0xA000 ≤ a.toNat → a.toNat ≤ 0xBFFF → d.toNat < 0x80 → s.shiftCount = 4 →
    exec (.mWrCommitChr0 a d) s = .next (afterCommit { s with chr0Select := shifted s.shiftRegister d })

/-- 42_serial_protocol_writes.md R135, R138: the commit to chr1Select; 0xDFFF included by the spec's own decision D4. -/
def Obligations.CommitToChr1 : Prop :=
  ∀ (a : Addr) (d : Byte) (s : State), s.answers .mmc1 → 0xC000 ≤ a.toNat → a.toNat ≤ 0xDFFF → d.toNat < 0x80 → s.shiftCount = 4 →
    exec (.mWrCommitChr1 a d) s = .next (afterCommit { s with chr1Select := shifted s.shiftRegister d })

/-- 42_serial_protocol_writes.md R135, R139: the commit to prgSelect. -/
def Obligations.CommitToPrgSelect : Prop :=
  ∀ (a : Addr) (d : Byte) (s : State), s.answers .mmc1 → 0xE000 ≤ a.toNat → d.toNat < 0x80 → s.shiftCount = 4 →
    exec (.mWrCommitPrg a d) s = .next (afterCommit { s with prgSelect := shifted s.shiftRegister d })

/-- 43_offset_recompute.md R151 to R155: Recompute() fills all four entries by the mode table and writes nothing else (R150). -/
def Obligations.RecomputeFollowsTheModeTable : Prop :=
  ∀ s : State, s.answers .mmc1 →
    exec .recompute s = .next { s with
      prgOffsets := prgTable s.control s.prgSelect s.cart.prgBanks
      chrOffsets := chrTable s.control s.chr0Select s.chr1Select
      result := .nothing }

/-- 10_state.md R34, derived by the spec from R151 to R156 with its decision D13: the alignment and the ranges of the derived offsets. -/
def Obligations.DerivedOffsetsAreAlignedAndBounded : Prop :=
  ∀ s : State, s.Inv → s.variant = .mmc1 →
    s.prgOffsets.w0 % 0x4000 = 0 ∧ s.prgOffsets.w0 ≤ 0x7C000 ∧ s.prgOffsets.w1 % 0x4000 = 0 ∧
    (s.prgOffsets.w1 ≤ 0x7C000 ∨ s.prgOffsets.w1 = 0x4000 * (s.cart.prgBanks - 1)) ∧
    s.chrOffsets.w0 % 0x1000 = 0 ∧ s.chrOffsets.w0 ≤ 0x1F000 ∧ s.chrOffsets.w1 % 0x1000 = 0 ∧ s.chrOffsets.w1 ≤ 0x1F000

/-- 10_state.md R33, 20_memory.md R64, R65: after a reset write, a commit, a construction or Recompute() the offsets are fresh. -/
def Obligations.RegisterChangesLeaveFreshOffsets : Prop :=
  ∀ (i : Instr) (s t : State), exec i s = .next t → t.variant = .mmc1 →
    (t.control = s.control ∧ t.prgSelect = s.prgSelect ∧ t.chr0Select = s.chr0Select ∧ t.chr1Select = s.chr1Select ∧
        t.prgOffsets = s.prgOffsets ∧ t.chrOffsets = s.chrOffsets ∧ isConstruct i = false) ∨
      (t.prgOffsets = prgTable t.control t.prgSelect t.cart.prgBanks ∧ t.chrOffsets = chrTable t.control t.chr0Select t.chr1Select)

/-! ## The protocol as a whole -/

/-- 42_serial_protocol_writes.md R140, derived by the spec from R131 to R139: the transition table of the protocol state, over every
operation of a session. The windows' last addresses are its decision D4. -/
def Obligations.ProtocolTransitionTable : Prop :=
  ∀ (i : Instr) (s t : State), exec i s = .next t → isConstruct i = false →
    match i with
    | .mWrReset _ _ => t.shiftCount = 0 ∧ t.shiftRegister = 0 ∧ t.control = s.control ||| 0x0C
    | .mWrShift _ d => s.shiftCount ≤ 3 ∧ t.shiftCount = s.shiftCount + 1 ∧ t.shiftRegister = shifted s.shiftRegister d
    | .mWrCommitCtrl a d | .mWrCommitChr0 a d | .mWrCommitChr1 a d | .mWrCommitPrg a d =>
      4 ≤ s.shiftCount ∧ t = afterCommit (stored s a.toNat (shifted s.shiftRegister d))
    | _ => t.shiftCount = s.shiftCount ∧ t.shiftRegister = s.shiftRegister

/-- 10_state.md R20, R23, R37: each bank-select register is written only by its commit, by the reset write (control) and by
construction; the mirroring cell in one place, the commit to control (construction takes the loader's). -/
def Obligations.RegistersAreWrittenOnlyByTheirOperations : Prop :=
  ∀ (i : Instr) (s t : State), exec i s = .next t → isConstruct i = false →
    ((∀ a d, i ≠ .mWrCommitCtrl a d) → (∀ a d, i ≠ .mWrReset a d) → t.control = s.control) ∧
    ((∀ a d, i ≠ .mWrCommitPrg a d) → t.prgSelect = s.prgSelect) ∧
    ((∀ a d, i ≠ .mWrCommitChr0 a d) → t.chr0Select = s.chr0Select) ∧
    ((∀ a d, i ≠ .mWrCommitChr1 a d) → t.chr1Select = s.chr1Select) ∧
    ((∀ a d, i ≠ .mWrCommitCtrl a d) → t.cart.mirroring = s.cart.mirroring)

/-- 10_state.md R37: the block never reads the mirroring cell. From a state that differs only there an operation answers the same, the
cell excepted; and the cell after it is the value the operation itself sets, where it sets one, and otherwise what it was. That the cell
after a construction is the new cartridge's is the model's choice (log 9). -/
def Obligations.MirroringIsNeverRead : Prop :=
  ∀ (i : Instr) (s t : State) (m : Mirroring), exec i s = .next t →
    exec i { s with cart := { s.cart with mirroring := m } } =
      .next { t with cart := { t.cart with mirroring := if setsMirroring i then t.cart.mirroring else m } }

/-- 30_encoding.md R85: D[7] is examined first and tells a reset write from a shift write; D[6:0] of the one and D[6:1] of the other
carry nothing. -/
def Obligations.IgnoredDataBitsChangeNothing : Prop :=
  ∀ (a : Addr) (d e : Byte) (s : State),
    (0x8000 ≤ a.toNat → 0x80 ≤ d.toNat → ∀ sc, decodeWord .mmc1 sc (Word26.cpuWrite a d) = .ok (.mWrReset a d)) ∧
    (0x8000 ≤ a.toNat → d.toNat < 0x80 →
      (∀ sc, sc < 4 → decodeWord .mmc1 sc (Word26.cpuWrite a d) = .ok (.mWrShift a d)) ∧
      ∀ sc, decodeWord .mmc1 sc (Word26.cpuWrite a d) ≠ .ok (.mWrReset a d)) ∧
    (0x80 ≤ d.toNat → 0x80 ≤ e.toNat → exec (.mWrReset a d) s = exec (.mWrReset a e) s) ∧
    (d.toNat < 0x80 → e.toNat < 0x80 → d.toNat % 2 = e.toNat % 2 →
      exec (.mWrShift a d) s = exec (.mWrShift a e) s ∧ exec (.mWrCommitCtrl a d) s = exec (.mWrCommitCtrl a e) s ∧
      exec (.mWrCommitChr0 a d) s = exec (.mWrCommitChr0 a e) s ∧ exec (.mWrCommitChr1 a d) s = exec (.mWrCommitChr1 a e) s ∧
      exec (.mWrCommitPrg a d) s = exec (.mWrCommitPrg a e) s)

/-- 42_serial_protocol_writes.md R133 corner case (c), R134 corner case (c): the address within 0x8000..0xFFFF makes no difference. -/
def Obligations.OnlyTheFifthAddressCounts : Prop :=
  ∀ (a b : Addr) (d : Byte) (s : State), 0x8000 ≤ a.toNat → 0x8000 ≤ b.toNat →
    exec (.mWrReset a d) s = exec (.mWrReset b d) s ∧ exec (.mWrShift a d) s = exec (.mWrShift b d) s

/-- 30_encoding.md R84, R92: five shift writes from shiftCount 0 commit the value of their D[0] bits, the first in bit 0, to the register
of the fifth address; the machine performs the five pending writes in five steps. The trace is log 1; the windows' last addresses are
decision D4 of the spec. -/
def Obligations.FiveShiftWritesLoadARegister : Prop :=
  ∀ (s : State) (a0 a1 a2 a3 a4 : Addr) (d0 d1 d2 d3 d4 : Byte) (rest : List Request), s.answers .mmc1 → s.shiftCount = 0 →
    (∀ a ∈ [a0, a1, a2, a3, a4], 0x8000 ≤ a.toNat) → (∀ d ∈ [d0, d1, d2, d3, d4], d.toNat < 0x80) →
    s.pending = [.bus (Word26.cpuWrite a0 d0), .bus (Word26.cpuWrite a1 d1), .bus (Word26.cpuWrite a2 d2),
      .bus (Word26.cpuWrite a3 d3), .bus (Word26.cpuWrite a4 d4)] ++ rest →
    s.run 5 = .next (afterCommit { stored s a4.toNat (assembled d0 d1 d2 d3 d4) with pending := rest })

/-- 42_serial_protocol_writes.md R141, derived by the spec from R140 and R84: the same with any operations that are no protocol write
between the five, whatever they are. The trace is log 1; the windows' last addresses (R83) are decision D4 of the spec (log 7). -/
def Obligations.ShiftWritesLoadARegisterThroughOtherTraffic : Prop :=
  ∀ (s t : State) (n0 n1 n2 n3 n4 : List Request) (w0 w1 w2 w3 w4 : Request) (a0 a1 a2 a3 a4 : Addr) (d0 d1 d2 d3 d4 : Byte),
    s.answers .mmc1 → s.shiftCount = 0 →
    (∀ r ∈ n0 ++ n1 ++ n2 ++ n3 ++ n4, isNeutral r = true) →
    isShiftOf w0 a0 d0 → isShiftOf w1 a1 d1 → isShiftOf w2 a2 d2 → isShiftOf w3 a3 d3 → isShiftOf w4 a4 d4 →
    s.pending = n0 ++ w0 :: n1 ++ w1 :: n2 ++ w2 :: n3 ++ w3 :: n4 ++ [w4] →
    s.run s.pending.length = .next t →
    t = afterCommit { stored s a4.toNat (assembled d0 d1 d2 d3 d4) with pending := [], prgRam := t.prgRam }

/-! ## Reads and faults as a whole -/

/-- 44_read_paths.md R166, 20_memory.md R55 (a): a read changes nothing but the answer, a faulting one `faulted`; a read that does not
fault has no influence on any later operation of either port, itself included. -/
def Obligations.ReadsChangeNothing : Prop :=
  ∀ (i : Instr) (s t : State), exec i s = .next t → isRead i = true →
    t = { s with result := t.result, faulted := t.faulted } ∧ (t.faulted = none → ∀ j : Instr, exec j t = exec j s)

/-- 60_exceptions.md R170, the spec's own decision D10: no write of either variant raises a fault. A well-formed write whose row holds
always completes. -/
def Obligations.NoWriteRaisesAFault : Prop :=
  ∀ (i : Instr) (s : State), isWrite i = true → i.wf = true → i.rowSelected s.variant s.shiftCount = true → s.faulted = none →
    ∃ t, exec i s = .next t ∧ t.faulted = none ∧ t.result = .nothing

/-- 60_exceptions.md R172, the spec's own decision D9: AddressRangeFault is raised by exactly these operations. -/
def Obligations.AddressRangeFaultIsRaisedByExactlyThese : Prop :=
  ∀ (i : Instr) (s t : State) (p : Port) (a : Addr), exec i s = .next t →
    (t.faulted = some (.addressRange p a) ↔
      (i = .nRdLow a ∧ s.variant = .nrom ∧ p = .cpu ∧ a.toNat < 0x8000) ∨
      (i = .mRdLow a ∧ s.variant = .mmc1 ∧ p = .cpu ∧ a.toNat < 0x6000) ∨
      (i = .nChrOor a ∧ s.variant = .nrom ∧ p = .ppu ∧ 0x2000 ≤ a.toNat) ∨
      (i = .mChrOor a ∧ s.variant = .mmc1 ∧ p = .ppu ∧ 0x2000 ≤ a.toNat))

/-- 60_exceptions.md R173, the spec's own decision D8: RomBoundsFault is raised exactly by a translated read at or beyond the end of its ROM. -/
def Obligations.RomBoundsFaultIsRaisedExactlyBeyondTheRom : Prop :=
  ∀ (i : Instr) (s t : State) (off : Nat), exec i s = .next t →
    (t.faulted = some (.romBounds .prg off) ↔ s.cart.prgBanks * 0x4000 ≤ off ∧ ∃ a : Addr,
      (i = .nRdPrg a ∧ off = nromTable s.cart.prgBanks a.toNat) ∨
      (i = .mRdPrg a ∧ a.toNat ≤ 0xBFFF ∧ off = s.prgOffsets.w0 + (a.toNat - 0x8000)) ∨
      (i = .mRdPrg a ∧ 0xC000 ≤ a.toNat ∧ off = s.prgOffsets.w1 + (a.toNat - 0xC000))) ∧
    (t.faulted = some (.romBounds .chr off) ↔ s.cart.chrSize ≤ off ∧ ∃ a : Addr,
      (i = .nChr a ∧ off = a.toNat) ∨
      (i = .mChr a ∧ a.toNat ≤ 0x0FFF ∧ off = s.chrOffsets.w0 + a.toNat) ∨
      (i = .mChr a ∧ 0x1000 ≤ a.toNat ∧ off = s.chrOffsets.w1 + (a.toNat - 0x1000)))

/-- 60_exceptions.md R176 (a) to (c), the spec's own decision D10: a fault is precise. The faulting operation writes nothing but `faulted`,
and returns no byte. -/
def Obligations.FaultsArePrecise : Prop :=
  ∀ (i : Instr) (s t : State) (r : FaultRecord), exec i s = .next t → t.faulted = some r →
    t = { s with faulted := some r, result := .nothing }

/-- 60_exceptions.md R176 (d), R177, the spec's own decision D10: a faulted block answers no operation but a new construction. That the
answer is the model's fault `halted` is log 8. -/
def Obligations.FaultedBlockAnswersNothing : Prop :=
  ∀ (s : State) (r : FaultRecord), s.faulted = some r →
    (∀ i : Instr, isConstruct i = false → exec i s = .fault (.halted r)) ∧
    (s.pending = [] → step s = .fault (.halted r)) ∧
    (∀ (w : Word26) (rest : List Request), s.pending = .bus w :: rest → w.kind ≠ 3 → step s = .fault (.halted r)) ∧
    (∀ rest : List Request, s.pending = .mapsChr :: rest → step s = .fault (.halted r))

/-- 70_reset_and_hazards.md R193 (f), the spec's own decision D17: with PRG_SIZE at least 0x80000 and CHR_SIZE at least 0x20000 no
RomBoundsFault occurs on MMC1. -/
def Obligations.LargeRomsNeverGoOutOfBounds : Prop :=
  ∀ (i : Instr) (s t : State) (rom : Rom) (off : Nat), s.Inv → s.variant = .mmc1 → 0x80000 ≤ s.cart.prgBanks * 0x4000 →
    0x20000 ≤ s.cart.chrSize → exec i s = .next t → t.faulted ≠ some (.romBounds rom off)

/-! ## Decoding and stepping -/

/-- 30_encoding.md R82, derived by the spec from its notation: the arithmetic of the read paths is the bit fields of the address. -/
def Obligations.AddressArithmeticIsBitFields : Prop :=
  ∀ a : Addr,
    (0x8000 ≤ a.toNat → a.programWindow = (a.extractLsb' 14 1).toNat ∧ a.programOffset = (a.extractLsb' 0 14).toNat) ∧
    (0x6000 ≤ a.toNat → a.toNat ≤ 0x7FFF → a.ramIndex = (a.extractLsb' 0 13).toNat) ∧
    (a.toNat ≤ 0x1FFF → a.patternWindow = (a.extractLsb' 12 1).toNat ∧ a.patternOffset = (a.extractLsb' 0 12).toNat)

/-- 30_encoding.md R83: the register window of a committing write is A[14:13], one of four 8 KiB ranges; the last address of each is the
spec's own decision D4. -/
def Obligations.RegisterWindowsAreTheFourRanges : Prop :=
  ∀ (a : Addr) (d : Byte), 0x8000 ≤ a.toNat → d.toNat < 0x80 →
    decodeWord .mmc1 4 (Word26.cpuWrite a d) = .ok (
      if a.toNat ≤ 0x9FFF then .mWrCommitCtrl a d
      else if a.toNat ≤ 0xBFFF then .mWrCommitChr0 a d
      else if a.toNat ≤ 0xDFFF then .mWrCommitChr1 a d
      else .mWrCommitPrg a d)

/-- 30_encoding.md R87 over the words of the spec's own packing (decision D2): every word of kind 0, 1 or 2 matches exactly one row for
each variant and shiftCount, and it is the row of the instruction the decoder gives. -/
def Obligations.EveryWordMatchesExactlyOneRow : Prop :=
  ∀ (v : Variant) (sc : Nat) (t : Word26), sc ≤ 4 → t.kind ≠ 3 →
    ∃ i, decodeWord v sc t = .ok i ∧ (busRows.filter (·.holds v sc t)).map Row.mnemonic = [i.mnemonic]

/-- 30_encoding.md R80, R89, the spec's own packing (decision D2): K = 0b11 spells no transaction; the decoder refuses it, and nothing else. -/
def Obligations.OnlyKindThreeIsRefused : Prop :=
  ∀ (v : Variant) (sc : Nat) (t : Word26),
    (decodeWord v sc t = .error (.notATransaction t) ↔ t.kind = 3) ∧ (t.kind ≠ 3 → ∃ i, decodeWord v sc t = .ok i)

/-- 40_dispatcher.md R112, 30_encoding.md R87: what the decoder gives is well formed, and its row holds for the variant and shiftCount. -/
def Obligations.DecodedInstructionsLieInTheirRow : Prop :=
  ∀ (v : Variant) (sc : Nat) (t : Word26) (i : Instr), decodeWord v sc t = .ok i →
    i.wf = true ∧ i.rowSelected v sc = true

/-- Decode of encode: every well-formed instruction, at every operand, in every context of its row, is read back from its request. -/
def Obligations.DecodeInvertsEncode : Prop :=
  ∀ (i : Instr) (r : Request) (v : Variant) (sc : Nat), i.wf = true → i.rowSelected v sc = true → encode i = some r →
    decodeRequest v sc r = .ok i

/-- Encode of decode: the word is read back, but for the data byte of the two read kinds, which carries nothing (R80). -/
def Obligations.EncodeInvertsDecode : Prop :=
  ∀ (v : Variant) (sc : Nat) (t : Word26) (i : Instr), decodeWord v sc t = .ok i →
    encodeWord i = some (if t.kind = 1 then t else Word26.pack t.kind t.addr 0)

/-- Words written out from the spec's encodings and vectors (95_test_vectors.md): one of each kind and family. -/
def Obligations.VectorWordsDecode : Prop :=
  decodeWord .nrom 0 0x0FFFC00 = .ok (.nRdPrg 0xFFFC) ∧ decodeWord .nrom 0 0x0600000 = .ok (.nRdLow 0x6000) ∧
    decodeWord .nrom 0 0x21FFF00 = .ok (.nChr 0x1FFF) ∧ decodeWord .mmc1 0 0x0612300 = .ok (.mRdRam 0x6123) ∧
    decodeWord .mmc1 2 0x1FFFF7F = .ok (.mWrShift 0xFFFF 0x7F) ∧ decodeWord .mmc1 4 0x19FFF01 = .ok (.mWrCommitCtrl 0x9FFF 0x01) ∧
    decodeWord .mmc1 4 0x1FFFFFF = .ok (.mWrReset 0xFFFF 0xFF) ∧ decodeWord .mmc1 0 0x2200000 = .ok (.mChrOor 0x2000)

/-- 20_memory.md R55, R61: one step performs the oldest pending operation, whole, and takes it off the trace (the trace is log 1). -/
def Obligations.StepPerformsTheOldestOperation : Prop :=
  ∀ (s : State) (r : Request) (rest : List Request) (i : Instr), s.pending = r :: rest →
    decodeRequest s.variant s.shiftCount r = .ok i → step s = exec i { s with pending := rest }

/-- 60_exceptions.md R181, 20_memory.md R51: with nothing to do an unfaulted block does nothing. -/
def Obligations.StepWithNothingPendingIsIdle : Prop :=
  ∀ s : State, s.pending = [] → s.faulted = none → step s = .next s

/-- A step is refused only for a word of kind 0b11 (R89) or a Construct whose cartridge breaks R193 (log 14); no step meets an
instruction outside its row (log 11) or one without a meaning. -/
def Obligations.StepIsRefusedOnlyForNoOperation : Prop :=
  ∀ (s : State) (x : Refusal), step s = .refused x →
    (∃ w rest, s.pending = .bus w :: rest ∧ w.kind = 3 ∧ x = .notATransaction w) ∨
    (∃ n cart rest, s.pending = .construct n cart :: rest ∧ n ≤ 1 ∧
      ((cart.prgBanks = 0 ∧ x = .noProgramBank) ∨ (1 ≤ cart.prgBanks ∧ cart.imagesWf = false ∧ x = .malformedImage)))

/-! ## The invariant -/

/-- State.reset meets the invariant of Safety.lean (10_state.md R39). -/
def Obligations.ResetMeetsTheInvariant : Prop := State.reset.Inv

/-- 10_state.md R39, R171: every step that answers a next state keeps the invariant, from every state that meets it. -/
def Obligations.EveryStepKeepsTheInvariant : Prop :=
  ∀ s t : State, s.Inv → step s = .next t → t.Inv
end

