-- ==== Sys2Proof/Laws/Decode.lean ====
section
/-! SUPPORT. The bits and the fields of a packed transaction word. -/

namespace Sys2Proof

/-- Bit j of K A D: D holds bits 7:0, A bits 23:8, K bits 25:24 (R80). -/
theorem Word26.getLsbD_pack (k : BitVec 2) (a : Addr) (d : Byte) (j : Nat) :
    (Word26.pack k a d).getLsbD j =
      if j < 8 then d.getLsbD j else if j - 8 < 16 then a.getLsbD (j - 8) else k.getLsbD (j - 8 - 16) := by
  refine (BitVec.getLsbD_append (x := k ++ a) (y := d) (i := j)).trans ?_
  rw [BitVec.getLsbD_append]

@[simp] theorem Word26.kind_pack (k : BitVec 2) (a : Addr) (d : Byte) : (Word26.pack k a d).kind = k := by
  unfold Word26.kind
  ext i hi
  rw [BitVec.getElem_extractLsb', Word26.getLsbD_pack, if_neg (by omega), if_neg (by omega), ← BitVec.getLsbD_eq_getElem hi]
  congr 1
  omega

@[simp] theorem Word26.addr_pack (k : BitVec 2) (a : Addr) (d : Byte) : (Word26.pack k a d).addr = a := by
  unfold Word26.addr
  ext i hi
  rw [BitVec.getElem_extractLsb', Word26.getLsbD_pack, if_neg (by omega), if_pos (by omega), ← BitVec.getLsbD_eq_getElem hi]
  congr 1
  omega

@[simp] theorem Word26.data_pack (k : BitVec 2) (a : Addr) (d : Byte) : (Word26.pack k a d).data = d := by
  unfold Word26.data
  ext i hi
  rw [BitVec.getElem_extractLsb', Word26.getLsbD_pack, if_pos (by omega), ← BitVec.getLsbD_eq_getElem hi]
  congr 1
  omega

end Sys2Proof
end

