-- ==== Sys2Proof/Laws/State.lean ====
section
/-! SUPPORT. What each named update of the state writes and leaves alone: one lemma per field per update, each true by rfl. -/

namespace Sys2Proof.Machine

/-! `State.withResult`. -/

@[simp] theorem State.withResult_variant (s : State) (r : Result) : (s.withResult r).variant = s.variant := rfl
@[simp] theorem State.withResult_control (s : State) (r : Result) : (s.withResult r).control = s.control := rfl
@[simp] theorem State.withResult_prgSelect (s : State) (r : Result) : (s.withResult r).prgSelect = s.prgSelect := rfl
@[simp] theorem State.withResult_chr0Select (s : State) (r : Result) : (s.withResult r).chr0Select = s.chr0Select := rfl
@[simp] theorem State.withResult_chr1Select (s : State) (r : Result) : (s.withResult r).chr1Select = s.chr1Select := rfl
@[simp] theorem State.withResult_shiftRegister (s : State) (r : Result) : (s.withResult r).shiftRegister = s.shiftRegister := rfl
@[simp] theorem State.withResult_shiftCount (s : State) (r : Result) : (s.withResult r).shiftCount = s.shiftCount := rfl
@[simp] theorem State.withResult_prgOffsets (s : State) (r : Result) : (s.withResult r).prgOffsets = s.prgOffsets := rfl
@[simp] theorem State.withResult_chrOffsets (s : State) (r : Result) : (s.withResult r).chrOffsets = s.chrOffsets := rfl
@[simp] theorem State.withResult_prgRam (s : State) (r : Result) : (s.withResult r).prgRam = s.prgRam := rfl
@[simp] theorem State.withResult_faulted (s : State) (r : Result) : (s.withResult r).faulted = s.faulted := rfl
@[simp] theorem State.withResult_cart (s : State) (r : Result) : (s.withResult r).cart = s.cart := rfl
@[simp] theorem State.withResult_result (s : State) (r : Result) : (s.withResult r).result = r := rfl
@[simp] theorem State.withResult_pending (s : State) (r : Result) : (s.withResult r).pending = s.pending := rfl

/-! `State.withFaulted`. -/

@[simp] theorem State.withFaulted_variant (s : State) (f : Option FaultRecord) : (s.withFaulted f).variant = s.variant := rfl
@[simp] theorem State.withFaulted_control (s : State) (f : Option FaultRecord) : (s.withFaulted f).control = s.control := rfl
@[simp] theorem State.withFaulted_prgSelect (s : State) (f : Option FaultRecord) : (s.withFaulted f).prgSelect = s.prgSelect := rfl
@[simp] theorem State.withFaulted_chr0Select (s : State) (f : Option FaultRecord) : (s.withFaulted f).chr0Select = s.chr0Select := rfl
@[simp] theorem State.withFaulted_chr1Select (s : State) (f : Option FaultRecord) : (s.withFaulted f).chr1Select = s.chr1Select := rfl
@[simp] theorem State.withFaulted_shiftRegister (s : State) (f : Option FaultRecord) : (s.withFaulted f).shiftRegister = s.shiftRegister := rfl
@[simp] theorem State.withFaulted_shiftCount (s : State) (f : Option FaultRecord) : (s.withFaulted f).shiftCount = s.shiftCount := rfl
@[simp] theorem State.withFaulted_prgOffsets (s : State) (f : Option FaultRecord) : (s.withFaulted f).prgOffsets = s.prgOffsets := rfl
@[simp] theorem State.withFaulted_chrOffsets (s : State) (f : Option FaultRecord) : (s.withFaulted f).chrOffsets = s.chrOffsets := rfl
@[simp] theorem State.withFaulted_prgRam (s : State) (f : Option FaultRecord) : (s.withFaulted f).prgRam = s.prgRam := rfl
@[simp] theorem State.withFaulted_faulted (s : State) (f : Option FaultRecord) : (s.withFaulted f).faulted = f := rfl
@[simp] theorem State.withFaulted_cart (s : State) (f : Option FaultRecord) : (s.withFaulted f).cart = s.cart := rfl
@[simp] theorem State.withFaulted_result (s : State) (f : Option FaultRecord) : (s.withFaulted f).result = s.result := rfl
@[simp] theorem State.withFaulted_pending (s : State) (f : Option FaultRecord) : (s.withFaulted f).pending = s.pending := rfl

/-! `State.withProtocol`. -/

@[simp] theorem State.withProtocol_variant (s : State) (sr : Reg5) (sc : Nat) : (s.withProtocol sr sc).variant = s.variant := rfl
@[simp] theorem State.withProtocol_control (s : State) (sr : Reg5) (sc : Nat) : (s.withProtocol sr sc).control = s.control := rfl
@[simp] theorem State.withProtocol_prgSelect (s : State) (sr : Reg5) (sc : Nat) : (s.withProtocol sr sc).prgSelect = s.prgSelect := rfl
@[simp] theorem State.withProtocol_chr0Select (s : State) (sr : Reg5) (sc : Nat) : (s.withProtocol sr sc).chr0Select = s.chr0Select := rfl
@[simp] theorem State.withProtocol_chr1Select (s : State) (sr : Reg5) (sc : Nat) : (s.withProtocol sr sc).chr1Select = s.chr1Select := rfl
@[simp] theorem State.withProtocol_shiftRegister (s : State) (sr : Reg5) (sc : Nat) : (s.withProtocol sr sc).shiftRegister = sr := rfl
@[simp] theorem State.withProtocol_shiftCount (s : State) (sr : Reg5) (sc : Nat) : (s.withProtocol sr sc).shiftCount = sc := rfl
@[simp] theorem State.withProtocol_prgOffsets (s : State) (sr : Reg5) (sc : Nat) : (s.withProtocol sr sc).prgOffsets = s.prgOffsets := rfl
@[simp] theorem State.withProtocol_chrOffsets (s : State) (sr : Reg5) (sc : Nat) : (s.withProtocol sr sc).chrOffsets = s.chrOffsets := rfl
@[simp] theorem State.withProtocol_prgRam (s : State) (sr : Reg5) (sc : Nat) : (s.withProtocol sr sc).prgRam = s.prgRam := rfl
@[simp] theorem State.withProtocol_faulted (s : State) (sr : Reg5) (sc : Nat) : (s.withProtocol sr sc).faulted = s.faulted := rfl
@[simp] theorem State.withProtocol_cart (s : State) (sr : Reg5) (sc : Nat) : (s.withProtocol sr sc).cart = s.cart := rfl
@[simp] theorem State.withProtocol_result (s : State) (sr : Reg5) (sc : Nat) : (s.withProtocol sr sc).result = s.result := rfl
@[simp] theorem State.withProtocol_pending (s : State) (sr : Reg5) (sc : Nat) : (s.withProtocol sr sc).pending = s.pending := rfl

/-! `State.withControl`. -/

@[simp] theorem State.withControl_variant (s : State) (v : Reg5) : (s.withControl v).variant = s.variant := rfl
@[simp] theorem State.withControl_control (s : State) (v : Reg5) : (s.withControl v).control = v := rfl
@[simp] theorem State.withControl_prgSelect (s : State) (v : Reg5) : (s.withControl v).prgSelect = s.prgSelect := rfl
@[simp] theorem State.withControl_chr0Select (s : State) (v : Reg5) : (s.withControl v).chr0Select = s.chr0Select := rfl
@[simp] theorem State.withControl_chr1Select (s : State) (v : Reg5) : (s.withControl v).chr1Select = s.chr1Select := rfl
@[simp] theorem State.withControl_shiftRegister (s : State) (v : Reg5) : (s.withControl v).shiftRegister = s.shiftRegister := rfl
@[simp] theorem State.withControl_shiftCount (s : State) (v : Reg5) : (s.withControl v).shiftCount = s.shiftCount := rfl
@[simp] theorem State.withControl_prgOffsets (s : State) (v : Reg5) : (s.withControl v).prgOffsets = s.prgOffsets := rfl
@[simp] theorem State.withControl_chrOffsets (s : State) (v : Reg5) : (s.withControl v).chrOffsets = s.chrOffsets := rfl
@[simp] theorem State.withControl_prgRam (s : State) (v : Reg5) : (s.withControl v).prgRam = s.prgRam := rfl
@[simp] theorem State.withControl_faulted (s : State) (v : Reg5) : (s.withControl v).faulted = s.faulted := rfl
@[simp] theorem State.withControl_cart (s : State) (v : Reg5) : (s.withControl v).cart = s.cart := rfl
@[simp] theorem State.withControl_result (s : State) (v : Reg5) : (s.withControl v).result = s.result := rfl
@[simp] theorem State.withControl_pending (s : State) (v : Reg5) : (s.withControl v).pending = s.pending := rfl

/-! `State.withPrgSelect`. -/

@[simp] theorem State.withPrgSelect_variant (s : State) (v : Reg5) : (s.withPrgSelect v).variant = s.variant := rfl
@[simp] theorem State.withPrgSelect_control (s : State) (v : Reg5) : (s.withPrgSelect v).control = s.control := rfl
@[simp] theorem State.withPrgSelect_prgSelect (s : State) (v : Reg5) : (s.withPrgSelect v).prgSelect = v := rfl
@[simp] theorem State.withPrgSelect_chr0Select (s : State) (v : Reg5) : (s.withPrgSelect v).chr0Select = s.chr0Select := rfl
@[simp] theorem State.withPrgSelect_chr1Select (s : State) (v : Reg5) : (s.withPrgSelect v).chr1Select = s.chr1Select := rfl
@[simp] theorem State.withPrgSelect_shiftRegister (s : State) (v : Reg5) : (s.withPrgSelect v).shiftRegister = s.shiftRegister := rfl
@[simp] theorem State.withPrgSelect_shiftCount (s : State) (v : Reg5) : (s.withPrgSelect v).shiftCount = s.shiftCount := rfl
@[simp] theorem State.withPrgSelect_prgOffsets (s : State) (v : Reg5) : (s.withPrgSelect v).prgOffsets = s.prgOffsets := rfl
@[simp] theorem State.withPrgSelect_chrOffsets (s : State) (v : Reg5) : (s.withPrgSelect v).chrOffsets = s.chrOffsets := rfl
@[simp] theorem State.withPrgSelect_prgRam (s : State) (v : Reg5) : (s.withPrgSelect v).prgRam = s.prgRam := rfl
@[simp] theorem State.withPrgSelect_faulted (s : State) (v : Reg5) : (s.withPrgSelect v).faulted = s.faulted := rfl
@[simp] theorem State.withPrgSelect_cart (s : State) (v : Reg5) : (s.withPrgSelect v).cart = s.cart := rfl
@[simp] theorem State.withPrgSelect_result (s : State) (v : Reg5) : (s.withPrgSelect v).result = s.result := rfl
@[simp] theorem State.withPrgSelect_pending (s : State) (v : Reg5) : (s.withPrgSelect v).pending = s.pending := rfl

/-! `State.withChr0Select`. -/

@[simp] theorem State.withChr0Select_variant (s : State) (v : Reg5) : (s.withChr0Select v).variant = s.variant := rfl
@[simp] theorem State.withChr0Select_control (s : State) (v : Reg5) : (s.withChr0Select v).control = s.control := rfl
@[simp] theorem State.withChr0Select_prgSelect (s : State) (v : Reg5) : (s.withChr0Select v).prgSelect = s.prgSelect := rfl
@[simp] theorem State.withChr0Select_chr0Select (s : State) (v : Reg5) : (s.withChr0Select v).chr0Select = v := rfl
@[simp] theorem State.withChr0Select_chr1Select (s : State) (v : Reg5) : (s.withChr0Select v).chr1Select = s.chr1Select := rfl
@[simp] theorem State.withChr0Select_shiftRegister (s : State) (v : Reg5) : (s.withChr0Select v).shiftRegister = s.shiftRegister := rfl
@[simp] theorem State.withChr0Select_shiftCount (s : State) (v : Reg5) : (s.withChr0Select v).shiftCount = s.shiftCount := rfl
@[simp] theorem State.withChr0Select_prgOffsets (s : State) (v : Reg5) : (s.withChr0Select v).prgOffsets = s.prgOffsets := rfl
@[simp] theorem State.withChr0Select_chrOffsets (s : State) (v : Reg5) : (s.withChr0Select v).chrOffsets = s.chrOffsets := rfl
@[simp] theorem State.withChr0Select_prgRam (s : State) (v : Reg5) : (s.withChr0Select v).prgRam = s.prgRam := rfl
@[simp] theorem State.withChr0Select_faulted (s : State) (v : Reg5) : (s.withChr0Select v).faulted = s.faulted := rfl
@[simp] theorem State.withChr0Select_cart (s : State) (v : Reg5) : (s.withChr0Select v).cart = s.cart := rfl
@[simp] theorem State.withChr0Select_result (s : State) (v : Reg5) : (s.withChr0Select v).result = s.result := rfl
@[simp] theorem State.withChr0Select_pending (s : State) (v : Reg5) : (s.withChr0Select v).pending = s.pending := rfl

/-! `State.withChr1Select`. -/

@[simp] theorem State.withChr1Select_variant (s : State) (v : Reg5) : (s.withChr1Select v).variant = s.variant := rfl
@[simp] theorem State.withChr1Select_control (s : State) (v : Reg5) : (s.withChr1Select v).control = s.control := rfl
@[simp] theorem State.withChr1Select_prgSelect (s : State) (v : Reg5) : (s.withChr1Select v).prgSelect = s.prgSelect := rfl
@[simp] theorem State.withChr1Select_chr0Select (s : State) (v : Reg5) : (s.withChr1Select v).chr0Select = s.chr0Select := rfl
@[simp] theorem State.withChr1Select_chr1Select (s : State) (v : Reg5) : (s.withChr1Select v).chr1Select = v := rfl
@[simp] theorem State.withChr1Select_shiftRegister (s : State) (v : Reg5) : (s.withChr1Select v).shiftRegister = s.shiftRegister := rfl
@[simp] theorem State.withChr1Select_shiftCount (s : State) (v : Reg5) : (s.withChr1Select v).shiftCount = s.shiftCount := rfl
@[simp] theorem State.withChr1Select_prgOffsets (s : State) (v : Reg5) : (s.withChr1Select v).prgOffsets = s.prgOffsets := rfl
@[simp] theorem State.withChr1Select_chrOffsets (s : State) (v : Reg5) : (s.withChr1Select v).chrOffsets = s.chrOffsets := rfl
@[simp] theorem State.withChr1Select_prgRam (s : State) (v : Reg5) : (s.withChr1Select v).prgRam = s.prgRam := rfl
@[simp] theorem State.withChr1Select_faulted (s : State) (v : Reg5) : (s.withChr1Select v).faulted = s.faulted := rfl
@[simp] theorem State.withChr1Select_cart (s : State) (v : Reg5) : (s.withChr1Select v).cart = s.cart := rfl
@[simp] theorem State.withChr1Select_result (s : State) (v : Reg5) : (s.withChr1Select v).result = s.result := rfl
@[simp] theorem State.withChr1Select_pending (s : State) (v : Reg5) : (s.withChr1Select v).pending = s.pending := rfl

/-! `State.withOffsets`. -/

@[simp] theorem State.withOffsets_variant (s : State) (p c : Offsets) : (s.withOffsets p c).variant = s.variant := rfl
@[simp] theorem State.withOffsets_control (s : State) (p c : Offsets) : (s.withOffsets p c).control = s.control := rfl
@[simp] theorem State.withOffsets_prgSelect (s : State) (p c : Offsets) : (s.withOffsets p c).prgSelect = s.prgSelect := rfl
@[simp] theorem State.withOffsets_chr0Select (s : State) (p c : Offsets) : (s.withOffsets p c).chr0Select = s.chr0Select := rfl
@[simp] theorem State.withOffsets_chr1Select (s : State) (p c : Offsets) : (s.withOffsets p c).chr1Select = s.chr1Select := rfl
@[simp] theorem State.withOffsets_shiftRegister (s : State) (p c : Offsets) : (s.withOffsets p c).shiftRegister = s.shiftRegister := rfl
@[simp] theorem State.withOffsets_shiftCount (s : State) (p c : Offsets) : (s.withOffsets p c).shiftCount = s.shiftCount := rfl
@[simp] theorem State.withOffsets_prgOffsets (s : State) (p c : Offsets) : (s.withOffsets p c).prgOffsets = p := rfl
@[simp] theorem State.withOffsets_chrOffsets (s : State) (p c : Offsets) : (s.withOffsets p c).chrOffsets = c := rfl
@[simp] theorem State.withOffsets_prgRam (s : State) (p c : Offsets) : (s.withOffsets p c).prgRam = s.prgRam := rfl
@[simp] theorem State.withOffsets_faulted (s : State) (p c : Offsets) : (s.withOffsets p c).faulted = s.faulted := rfl
@[simp] theorem State.withOffsets_cart (s : State) (p c : Offsets) : (s.withOffsets p c).cart = s.cart := rfl
@[simp] theorem State.withOffsets_result (s : State) (p c : Offsets) : (s.withOffsets p c).result = s.result := rfl
@[simp] theorem State.withOffsets_pending (s : State) (p c : Offsets) : (s.withOffsets p c).pending = s.pending := rfl

/-! `State.withPrgRam`. -/

@[simp] theorem State.withPrgRam_variant (s : State) (m : Memory) : (s.withPrgRam m).variant = s.variant := rfl
@[simp] theorem State.withPrgRam_control (s : State) (m : Memory) : (s.withPrgRam m).control = s.control := rfl
@[simp] theorem State.withPrgRam_prgSelect (s : State) (m : Memory) : (s.withPrgRam m).prgSelect = s.prgSelect := rfl
@[simp] theorem State.withPrgRam_chr0Select (s : State) (m : Memory) : (s.withPrgRam m).chr0Select = s.chr0Select := rfl
@[simp] theorem State.withPrgRam_chr1Select (s : State) (m : Memory) : (s.withPrgRam m).chr1Select = s.chr1Select := rfl
@[simp] theorem State.withPrgRam_shiftRegister (s : State) (m : Memory) : (s.withPrgRam m).shiftRegister = s.shiftRegister := rfl
@[simp] theorem State.withPrgRam_shiftCount (s : State) (m : Memory) : (s.withPrgRam m).shiftCount = s.shiftCount := rfl
@[simp] theorem State.withPrgRam_prgOffsets (s : State) (m : Memory) : (s.withPrgRam m).prgOffsets = s.prgOffsets := rfl
@[simp] theorem State.withPrgRam_chrOffsets (s : State) (m : Memory) : (s.withPrgRam m).chrOffsets = s.chrOffsets := rfl
@[simp] theorem State.withPrgRam_prgRam (s : State) (m : Memory) : (s.withPrgRam m).prgRam = m := rfl
@[simp] theorem State.withPrgRam_faulted (s : State) (m : Memory) : (s.withPrgRam m).faulted = s.faulted := rfl
@[simp] theorem State.withPrgRam_cart (s : State) (m : Memory) : (s.withPrgRam m).cart = s.cart := rfl
@[simp] theorem State.withPrgRam_result (s : State) (m : Memory) : (s.withPrgRam m).result = s.result := rfl
@[simp] theorem State.withPrgRam_pending (s : State) (m : Memory) : (s.withPrgRam m).pending = s.pending := rfl

/-! `State.withMirroring`. -/

@[simp] theorem State.withMirroring_variant (s : State) (m : Mirroring) : (s.withMirroring m).variant = s.variant := rfl
@[simp] theorem State.withMirroring_control (s : State) (m : Mirroring) : (s.withMirroring m).control = s.control := rfl
@[simp] theorem State.withMirroring_prgSelect (s : State) (m : Mirroring) : (s.withMirroring m).prgSelect = s.prgSelect := rfl
@[simp] theorem State.withMirroring_chr0Select (s : State) (m : Mirroring) : (s.withMirroring m).chr0Select = s.chr0Select := rfl
@[simp] theorem State.withMirroring_chr1Select (s : State) (m : Mirroring) : (s.withMirroring m).chr1Select = s.chr1Select := rfl
@[simp] theorem State.withMirroring_shiftRegister (s : State) (m : Mirroring) : (s.withMirroring m).shiftRegister = s.shiftRegister := rfl
@[simp] theorem State.withMirroring_shiftCount (s : State) (m : Mirroring) : (s.withMirroring m).shiftCount = s.shiftCount := rfl
@[simp] theorem State.withMirroring_prgOffsets (s : State) (m : Mirroring) : (s.withMirroring m).prgOffsets = s.prgOffsets := rfl
@[simp] theorem State.withMirroring_chrOffsets (s : State) (m : Mirroring) : (s.withMirroring m).chrOffsets = s.chrOffsets := rfl
@[simp] theorem State.withMirroring_prgRam (s : State) (m : Mirroring) : (s.withMirroring m).prgRam = s.prgRam := rfl
@[simp] theorem State.withMirroring_faulted (s : State) (m : Mirroring) : (s.withMirroring m).faulted = s.faulted := rfl
@[simp] theorem State.withMirroring_cart (s : State) (m : Mirroring) : (s.withMirroring m).cart = { s.cart with mirroring := m } := rfl
@[simp] theorem State.withMirroring_result (s : State) (m : Mirroring) : (s.withMirroring m).result = s.result := rfl
@[simp] theorem State.withMirroring_pending (s : State) (m : Mirroring) : (s.withMirroring m).pending = s.pending := rfl

/-! `State.withPending`. -/

@[simp] theorem State.withPending_variant (s : State) (p : List Request) : (s.withPending p).variant = s.variant := rfl
@[simp] theorem State.withPending_control (s : State) (p : List Request) : (s.withPending p).control = s.control := rfl
@[simp] theorem State.withPending_prgSelect (s : State) (p : List Request) : (s.withPending p).prgSelect = s.prgSelect := rfl
@[simp] theorem State.withPending_chr0Select (s : State) (p : List Request) : (s.withPending p).chr0Select = s.chr0Select := rfl
@[simp] theorem State.withPending_chr1Select (s : State) (p : List Request) : (s.withPending p).chr1Select = s.chr1Select := rfl
@[simp] theorem State.withPending_shiftRegister (s : State) (p : List Request) : (s.withPending p).shiftRegister = s.shiftRegister := rfl
@[simp] theorem State.withPending_shiftCount (s : State) (p : List Request) : (s.withPending p).shiftCount = s.shiftCount := rfl
@[simp] theorem State.withPending_prgOffsets (s : State) (p : List Request) : (s.withPending p).prgOffsets = s.prgOffsets := rfl
@[simp] theorem State.withPending_chrOffsets (s : State) (p : List Request) : (s.withPending p).chrOffsets = s.chrOffsets := rfl
@[simp] theorem State.withPending_prgRam (s : State) (p : List Request) : (s.withPending p).prgRam = s.prgRam := rfl
@[simp] theorem State.withPending_faulted (s : State) (p : List Request) : (s.withPending p).faulted = s.faulted := rfl
@[simp] theorem State.withPending_cart (s : State) (p : List Request) : (s.withPending p).cart = s.cart := rfl
@[simp] theorem State.withPending_result (s : State) (p : List Request) : (s.withPending p).result = s.result := rfl
@[simp] theorem State.withPending_pending (s : State) (p : List Request) : (s.withPending p).pending = p := rfl

/-! `State.recomputed`. -/

@[simp] theorem State.recomputed_variant (s : State) : s.recomputed.variant = s.variant := rfl
@[simp] theorem State.recomputed_control (s : State) : s.recomputed.control = s.control := rfl
@[simp] theorem State.recomputed_prgSelect (s : State) : s.recomputed.prgSelect = s.prgSelect := rfl
@[simp] theorem State.recomputed_chr0Select (s : State) : s.recomputed.chr0Select = s.chr0Select := rfl
@[simp] theorem State.recomputed_chr1Select (s : State) : s.recomputed.chr1Select = s.chr1Select := rfl
@[simp] theorem State.recomputed_shiftRegister (s : State) : s.recomputed.shiftRegister = s.shiftRegister := rfl
@[simp] theorem State.recomputed_shiftCount (s : State) : s.recomputed.shiftCount = s.shiftCount := rfl
@[simp] theorem State.recomputed_prgOffsets (s : State) : s.recomputed.prgOffsets = prgOffsetsOf s.control s.prgSelect s.cart.prgBanks := rfl
@[simp] theorem State.recomputed_chrOffsets (s : State) : s.recomputed.chrOffsets = chrOffsetsOf s.control s.chr0Select s.chr1Select := rfl
@[simp] theorem State.recomputed_prgRam (s : State) : s.recomputed.prgRam = s.prgRam := rfl
@[simp] theorem State.recomputed_faulted (s : State) : s.recomputed.faulted = s.faulted := rfl
@[simp] theorem State.recomputed_cart (s : State) : s.recomputed.cart = s.cart := rfl
@[simp] theorem State.recomputed_result (s : State) : s.recomputed.result = s.result := rfl
@[simp] theorem State.recomputed_pending (s : State) : s.recomputed.pending = s.pending := rfl

/-! `State.constructedNrom`. -/

@[simp] theorem State.constructedNrom_variant (s : State) (c : Cartridge) : (s.constructedNrom c).variant = .nrom := rfl
@[simp] theorem State.constructedNrom_control (s : State) (c : Cartridge) : (s.constructedNrom c).control = s.control := rfl
@[simp] theorem State.constructedNrom_prgSelect (s : State) (c : Cartridge) : (s.constructedNrom c).prgSelect = s.prgSelect := rfl
@[simp] theorem State.constructedNrom_chr0Select (s : State) (c : Cartridge) : (s.constructedNrom c).chr0Select = s.chr0Select := rfl
@[simp] theorem State.constructedNrom_chr1Select (s : State) (c : Cartridge) : (s.constructedNrom c).chr1Select = s.chr1Select := rfl
@[simp] theorem State.constructedNrom_shiftRegister (s : State) (c : Cartridge) : (s.constructedNrom c).shiftRegister = s.shiftRegister := rfl
@[simp] theorem State.constructedNrom_shiftCount (s : State) (c : Cartridge) : (s.constructedNrom c).shiftCount = s.shiftCount := rfl
@[simp] theorem State.constructedNrom_prgOffsets (s : State) (c : Cartridge) : (s.constructedNrom c).prgOffsets = s.prgOffsets := rfl
@[simp] theorem State.constructedNrom_chrOffsets (s : State) (c : Cartridge) : (s.constructedNrom c).chrOffsets = s.chrOffsets := rfl
@[simp] theorem State.constructedNrom_prgRam (s : State) (c : Cartridge) : (s.constructedNrom c).prgRam = s.prgRam := rfl
@[simp] theorem State.constructedNrom_faulted (s : State) (c : Cartridge) : (s.constructedNrom c).faulted = none := rfl
@[simp] theorem State.constructedNrom_cart (s : State) (c : Cartridge) : (s.constructedNrom c).cart = c := rfl
@[simp] theorem State.constructedNrom_result (s : State) (c : Cartridge) : (s.constructedNrom c).result = .nothing := rfl
@[simp] theorem State.constructedNrom_pending (s : State) (c : Cartridge) : (s.constructedNrom c).pending = s.pending := rfl

/-! `State.constructedMmc1`. -/

@[simp] theorem State.constructedMmc1_variant (s : State) (c : Cartridge) : (s.constructedMmc1 c).variant = .mmc1 := rfl
@[simp] theorem State.constructedMmc1_control (s : State) (c : Cartridge) : (s.constructedMmc1 c).control = 0x1C := rfl
@[simp] theorem State.constructedMmc1_prgSelect (s : State) (c : Cartridge) : (s.constructedMmc1 c).prgSelect = 0 := rfl
@[simp] theorem State.constructedMmc1_chr0Select (s : State) (c : Cartridge) : (s.constructedMmc1 c).chr0Select = 0 := rfl
@[simp] theorem State.constructedMmc1_chr1Select (s : State) (c : Cartridge) : (s.constructedMmc1 c).chr1Select = 0 := rfl
@[simp] theorem State.constructedMmc1_shiftRegister (s : State) (c : Cartridge) : (s.constructedMmc1 c).shiftRegister = 0 := rfl
@[simp] theorem State.constructedMmc1_shiftCount (s : State) (c : Cartridge) : (s.constructedMmc1 c).shiftCount = 0 := rfl
@[simp] theorem State.constructedMmc1_prgOffsets (s : State) (c : Cartridge) : (s.constructedMmc1 c).prgOffsets = ⟨0, (c.prgBanks - 1) * 0x4000⟩ := rfl
@[simp] theorem State.constructedMmc1_chrOffsets (s : State) (c : Cartridge) : (s.constructedMmc1 c).chrOffsets = ⟨0, 0⟩ := rfl
@[simp] theorem State.constructedMmc1_prgRam (s : State) (c : Cartridge) : (s.constructedMmc1 c).prgRam = c.prgRamInit := rfl
@[simp] theorem State.constructedMmc1_faulted (s : State) (c : Cartridge) : (s.constructedMmc1 c).faulted = none := rfl
@[simp] theorem State.constructedMmc1_cart (s : State) (c : Cartridge) : (s.constructedMmc1 c).cart = c := rfl
@[simp] theorem State.constructedMmc1_result (s : State) (c : Cartridge) : (s.constructedMmc1 c).result = .nothing := rfl
@[simp] theorem State.constructedMmc1_pending (s : State) (c : Cartridge) : (s.constructedMmc1 c).pending = s.pending := rfl

end Sys2Proof.Machine
end

