-- ==== Sys2Proof/Laws/Ops.lean ====
section
/-! SUPPORT. One lemma per shared operation that says everything it can do when it answers a next state, and when it answers one. -/

namespace Sys2Proof.Machine

theorem State.serve_faulted (s : State) (v : Variant) (row : Bool) (k : Out) (r : FaultRecord) (h : s.faulted = some r) :
    s.serve v row k = .fault (.halted r) := by
  simp [State.serve, h]

theorem State.serve_row (s : State) (v : Variant) (row : Bool) (k : Out) (hf : s.faulted = none) (hv : s.variant = v)
    (hr : row = true) : s.serve v row k = k := by
  simp [State.serve, hf, hv, hr]

/-- What a served operation needs to answer a next state: an unfaulted block of its variant, its row, and a next state of its effect. -/
theorem State.serve_next (s t : State) (v : Variant) (row : Bool) (k : Out) (h : s.serve v row k = .next t) :
    s.faulted = none ∧ s.variant = v ∧ row = true ∧ k = .next t := by
  unfold State.serve at h
  split at h
  · cases h
  · rename_i hf
    split at h
    · rename_i hr
      exact ⟨hf, hr.1, hr.2, h⟩
    · cases h

theorem State.raise_next (s t : State) (r : FaultRecord) (h : s.raise r = .next t) :
    t = (s.withResult .nothing).withFaulted (some r) := by
  simpa [State.raise] using h.symm

theorem State.answerByte_next (s t : State) (b : Byte) (h : s.answerByte b = .next t) : t = s.withResult (.byte b) := by
  simpa [State.answerByte] using h.symm

theorem State.done_next (s t : State) (h : s.done = .next t) : t = s.withResult .nothing := by
  simpa [State.done] using h.symm

theorem State.committed_next (s t : State) (h : s.committed = .next t) :
    t = (s.recomputed.withProtocol 0 0).withResult .nothing :=
  State.done_next _ _ h

theorem State.prgRomRead_next (s t : State) (off : Nat) (h : s.prgRomRead off = .next t) :
    (off < s.cart.prgSize ∧ t = s.withResult (.byte (s.cart.prgByte off))) ∨
      (s.cart.prgSize ≤ off ∧ t = (s.withResult .nothing).withFaulted (some (.romBounds .prg off))) := by
  unfold State.prgRomRead at h
  split at h
  · rename_i hlt
    exact .inl ⟨hlt, s.answerByte_next t _ h⟩
  · rename_i hge
    exact .inr ⟨Nat.le_of_not_lt hge, s.raise_next t _ h⟩

theorem State.chrRomRead_next (s t : State) (off : Nat) (h : s.chrRomRead off = .next t) :
    (off < s.cart.chrSize ∧ t = s.withResult (.byte (s.cart.chrByte off))) ∨
      (s.cart.chrSize ≤ off ∧ t = (s.withResult .nothing).withFaulted (some (.romBounds .chr off))) := by
  unfold State.chrRomRead at h
  split at h
  · rename_i hlt
    exact .inl ⟨hlt, s.answerByte_next t _ h⟩
  · rename_i hge
    exact .inr ⟨Nat.le_of_not_lt hge, s.raise_next t _ h⟩

theorem constructWith_next (c : Cartridge) (b t : State) (h : constructWith c b = .next t) : c.wf = true ∧ t = b := by
  unfold constructWith at h
  split at h
  · cases h
  · rename_i hb
    split at h
    · rename_i hi
      cases h
      exact ⟨by simp [Cartridge.wf, hi]; omega, rfl⟩
    · cases h

theorem constructWith_wf (c : Cartridge) (b : State) (h : c.wf = true) : constructWith c b = .next b := by
  simp only [Cartridge.wf, Bool.and_eq_true, decide_eq_true_eq] at h
  have hb : c.prgBanks ≠ 0 := by omega
  simp [constructWith, hb, h.2]

/-- What a step can do when it answers a next state: idle, or perform its oldest request. -/
theorem step_next (s t : State) (h : step s = .next t) :
    (s.pending = [] ∧ s.faulted = none ∧ t = s) ∨
      ∃ r rest i, s.pending = r :: rest ∧ s.decodeFor r = .ok i ∧ exec i (s.withPending rest) = .next t := by
  unfold step at h
  split at h
  · rename_i hp
    unfold State.idle at h
    split at h
    · rename_i hf
      cases h
      exact .inl ⟨hp, hf, rfl⟩
    · cases h
  · rename_i r rest hp
    split at h
    · cases h
    · rename_i i hi
      exact .inr ⟨r, rest, i, hp, hi, h⟩

end Sys2Proof.Machine
end

