-- ==== Sys2Proof/Laws/Exec.lean ====
section
/-! SUPPORT. What each operation does when it answers a next state, one inversion lemma per constructor: the block is not faulted, the row holds, and the next state is the one named. A proof over all operations cites these and unfolds no meaning. -/

namespace Sys2Proof.Machine

theorem execNRdLow_next (a : Addr) (s t : State) (h : exec (.nRdLow a) s = .next t) :
    s.faulted = none ∧ s.variant = .nrom ∧ a.belowProgram = true ∧
      t = (s.withResult .nothing).withFaulted (some (.addressRange .cpu a)) := by
  obtain ⟨hf, hv, hr, h⟩ := State.serve_next _ _ _ _ _ h
  exact ⟨hf, hv, hr, s.raise_next t _ h⟩

theorem execNRdPrg_next (a : Addr) (s t : State) (h : exec (.nRdPrg a) s = .next t) :
    s.faulted = none ∧ s.variant = .nrom ∧ a.inProgram = true ∧
      (((nromOffset s.cart.prgBanks a) < s.cart.prgSize ∧ t = s.withResult (.byte (s.cart.prgByte (nromOffset s.cart.prgBanks a)))) ∨
        (s.cart.prgSize ≤ (nromOffset s.cart.prgBanks a) ∧ t = (s.withResult .nothing).withFaulted (some (.romBounds .prg (nromOffset s.cart.prgBanks a))))) := by
  obtain ⟨hf, hv, hr, h⟩ := State.serve_next _ _ _ _ _ h
  exact ⟨hf, hv, hr, s.prgRomRead_next t _ h⟩

theorem execNWr_next (a : Addr) (d : Byte) (s t : State) (h : exec (.nWr a d) s = .next t) :
    s.faulted = none ∧ s.variant = .nrom ∧
      t = s.withResult .nothing := by
  obtain ⟨hf, hv, -, h⟩ := State.serve_next _ _ _ _ _ h
  exact ⟨hf, hv, State.done_next _ t h⟩

theorem execNChr_next (a : Addr) (s t : State) (h : exec (.nChr a) s = .next t) :
    s.faulted = none ∧ s.variant = .nrom ∧ a.inPattern = true ∧
      ((a.toNat < s.cart.chrSize ∧ t = s.withResult (.byte (s.cart.chrByte a.toNat))) ∨
        (s.cart.chrSize ≤ a.toNat ∧ t = (s.withResult .nothing).withFaulted (some (.romBounds .chr a.toNat)))) := by
  obtain ⟨hf, hv, hr, h⟩ := State.serve_next _ _ _ _ _ h
  exact ⟨hf, hv, hr, s.chrRomRead_next t _ h⟩

theorem execNChrOor_next (a : Addr) (s t : State) (h : exec (.nChrOor a) s = .next t) :
    s.faulted = none ∧ s.variant = .nrom ∧ (!a.inPattern) = true ∧
      t = (s.withResult .nothing).withFaulted (some (.addressRange .ppu a)) := by
  obtain ⟨hf, hv, hr, h⟩ := State.serve_next _ _ _ _ _ h
  exact ⟨hf, hv, hr, s.raise_next t _ h⟩

theorem execMRdLow_next (a : Addr) (s t : State) (h : exec (.mRdLow a) s = .next t) :
    s.faulted = none ∧ s.variant = .mmc1 ∧ a.belowRam = true ∧
      t = (s.withResult .nothing).withFaulted (some (.addressRange .cpu a)) := by
  obtain ⟨hf, hv, hr, h⟩ := State.serve_next _ _ _ _ _ h
  exact ⟨hf, hv, hr, s.raise_next t _ h⟩

theorem execMRdRam_next (a : Addr) (s t : State) (h : exec (.mRdRam a) s = .next t) :
    s.faulted = none ∧ s.variant = .mmc1 ∧ a.inRam = true ∧
      t = s.withResult (.byte (s.prgRamByte a.ramIndex)) := by
  obtain ⟨hf, hv, hr, h⟩ := State.serve_next _ _ _ _ _ h
  exact ⟨hf, hv, hr, s.answerByte_next t _ h⟩

theorem execMRdPrg_next (a : Addr) (s t : State) (h : exec (.mRdPrg a) s = .next t) :
    s.faulted = none ∧ s.variant = .mmc1 ∧ a.inProgram = true ∧
      (((s.prgOffset a) < s.cart.prgSize ∧ t = s.withResult (.byte (s.cart.prgByte (s.prgOffset a)))) ∨
        (s.cart.prgSize ≤ (s.prgOffset a) ∧ t = (s.withResult .nothing).withFaulted (some (.romBounds .prg (s.prgOffset a))))) := by
  obtain ⟨hf, hv, hr, h⟩ := State.serve_next _ _ _ _ _ h
  exact ⟨hf, hv, hr, s.prgRomRead_next t _ h⟩

theorem execMChr_next (a : Addr) (s t : State) (h : exec (.mChr a) s = .next t) :
    s.faulted = none ∧ s.variant = .mmc1 ∧ a.inPattern = true ∧
      (((s.chrOffset a) < s.cart.chrSize ∧ t = s.withResult (.byte (s.cart.chrByte (s.chrOffset a)))) ∨
        (s.cart.chrSize ≤ (s.chrOffset a) ∧ t = (s.withResult .nothing).withFaulted (some (.romBounds .chr (s.chrOffset a))))) := by
  obtain ⟨hf, hv, hr, h⟩ := State.serve_next _ _ _ _ _ h
  exact ⟨hf, hv, hr, s.chrRomRead_next t _ h⟩

theorem execMChrOor_next (a : Addr) (s t : State) (h : exec (.mChrOor a) s = .next t) :
    s.faulted = none ∧ s.variant = .mmc1 ∧ (!a.inPattern) = true ∧
      t = (s.withResult .nothing).withFaulted (some (.addressRange .ppu a)) := by
  obtain ⟨hf, hv, hr, h⟩ := State.serve_next _ _ _ _ _ h
  exact ⟨hf, hv, hr, s.raise_next t _ h⟩

theorem execMWrIgn_next (a : Addr) (d : Byte) (s t : State) (h : exec (.mWrIgn a d) s = .next t) :
    s.faulted = none ∧ s.variant = .mmc1 ∧ a.belowRam = true ∧
      t = s.withResult .nothing := by
  obtain ⟨hf, hv, hr, h⟩ := State.serve_next _ _ _ _ _ h
  exact ⟨hf, hv, hr, State.done_next _ t h⟩

theorem execMWrRam_next (a : Addr) (d : Byte) (s t : State) (h : exec (.mWrRam a d) s = .next t) :
    s.faulted = none ∧ s.variant = .mmc1 ∧ a.inRam = true ∧
      t = (s.withPrgRam (Memory.write s.prgRam a.ramIndex d)).withResult .nothing := by
  obtain ⟨hf, hv, hr, h⟩ := State.serve_next _ _ _ _ _ h
  exact ⟨hf, hv, hr, State.done_next _ t h⟩

theorem execMWrReset_next (a : Addr) (d : Byte) (s t : State) (h : exec (.mWrReset a d) s = .next t) :
    s.faulted = none ∧ s.variant = .mmc1 ∧ (a.inProgram && d.isReset) = true ∧
      t = ((s.withProtocol 0 0).withControl (s.control ||| 0x0C)).recomputed.withResult .nothing := by
  obtain ⟨hf, hv, hr, h⟩ := State.serve_next _ _ _ _ _ h
  exact ⟨hf, hv, hr, State.done_next _ t h⟩

theorem execMWrShift_next (a : Addr) (d : Byte) (s t : State) (h : exec (.mWrShift a d) s = .next t) :
    s.faulted = none ∧ s.variant = .mmc1 ∧ (a.inProgram && !d.isReset && decide (s.shiftCount < 4)) = true ∧
      t = (s.withProtocol (shiftIn s.shiftRegister d) (s.shiftCount + 1)).withResult .nothing := by
  obtain ⟨hf, hv, hr, h⟩ := State.serve_next _ _ _ _ _ h
  exact ⟨hf, hv, hr, State.done_next _ t h⟩

theorem execMWrCommitCtrl_next (a : Addr) (d : Byte) (s t : State) (h : exec (.mWrCommitCtrl a d) s = .next t) :
    s.faulted = none ∧ s.variant = .mmc1 ∧ s.commitRow 0 a d = true ∧
      t = (((s.withControl (shiftIn s.shiftRegister d)).withMirroring (.ofControl (shiftIn s.shiftRegister d))).recomputed.withProtocol 0 0).withResult .nothing := by
  obtain ⟨hf, hv, hr, h⟩ := State.serve_next _ _ _ _ _ h
  exact ⟨hf, hv, hr, State.committed_next _ t h⟩

theorem execMWrCommitChr0_next (a : Addr) (d : Byte) (s t : State) (h : exec (.mWrCommitChr0 a d) s = .next t) :
    s.faulted = none ∧ s.variant = .mmc1 ∧ s.commitRow 1 a d = true ∧
      t = ((s.withChr0Select (shiftIn s.shiftRegister d)).recomputed.withProtocol 0 0).withResult .nothing := by
  obtain ⟨hf, hv, hr, h⟩ := State.serve_next _ _ _ _ _ h
  exact ⟨hf, hv, hr, State.committed_next _ t h⟩

theorem execMWrCommitChr1_next (a : Addr) (d : Byte) (s t : State) (h : exec (.mWrCommitChr1 a d) s = .next t) :
    s.faulted = none ∧ s.variant = .mmc1 ∧ s.commitRow 2 a d = true ∧
      t = ((s.withChr1Select (shiftIn s.shiftRegister d)).recomputed.withProtocol 0 0).withResult .nothing := by
  obtain ⟨hf, hv, hr, h⟩ := State.serve_next _ _ _ _ _ h
  exact ⟨hf, hv, hr, State.committed_next _ t h⟩

theorem execMWrCommitPrg_next (a : Addr) (d : Byte) (s t : State) (h : exec (.mWrCommitPrg a d) s = .next t) :
    s.faulted = none ∧ s.variant = .mmc1 ∧ s.commitRow 3 a d = true ∧
      t = ((s.withPrgSelect (shiftIn s.shiftRegister d)).recomputed.withProtocol 0 0).withResult .nothing := by
  obtain ⟨hf, hv, hr, h⟩ := State.serve_next _ _ _ _ _ h
  exact ⟨hf, hv, hr, State.committed_next _ t h⟩

theorem execRecompute_next (s t : State) (h : exec .recompute s = .next t) :
    s.faulted = none ∧ s.variant = .mmc1 ∧
      t = s.recomputed.withResult .nothing := by
  obtain ⟨hf, hv, -, h⟩ := State.serve_next _ _ _ _ _ h
  exact ⟨hf, hv, State.done_next _ t h⟩

theorem execMapsChr_next (s t : State) (h : exec .mapsChr s = .next t) :
    s.faulted = none ∧ t = s.withResult (.flag (mapsChrOf s.variant)) := by
  obtain ⟨hf, -, -, h⟩ := State.serve_next _ _ _ _ _ h
  cases h
  exact ⟨hf, rfl⟩

theorem execConstructNrom_next (cart : Cartridge) (s t : State) (h : exec (.constructNrom cart) s = .next t) :
    cart.wf = true ∧ t = s.constructedNrom cart :=
  constructWith_next cart _ t h

theorem execConstructMmc1_next (cart : Cartridge) (s t : State) (h : exec (.constructMmc1 cart) s = .next t) :
    cart.wf = true ∧ t = s.constructedMmc1 cart :=
  constructWith_next cart _ t h

theorem execConstructBad_next (mapperId : Nat) (s t : State) : exec (.constructBad mapperId) s ≠ .next t := by
  intro h
  simp only [exec, execConstructBad] at h
  split at h <;> cases h

end Sys2Proof.Machine
end

