-- ==== Sys2Proof/Laws/Memory.lean ====
section
/-! SUPPORT. The laws of memories: a read after a write, the canonical form kept by every write, and equality of canonical memories that list the same bytes. -/

namespace Sys2Proof

theorem Memory.read_write_same (m : Memory) (i : Nat) (b : Byte) : Memory.read (Memory.write m i b) i = some b := by
  induction m with
  | nil => simp [Memory.write, Memory.read]
  | cons c m ih =>
    obtain ⟨j, x⟩ := c
    unfold Memory.write
    split
    · simp [Memory.read]
    · split
      · simp [Memory.read]
      · rename_i h
        simp [Memory.read, h, ih]

theorem Memory.read_write_other (m : Memory) (i k : Nat) (b : Byte) (h : k ≠ i) :
    Memory.read (Memory.write m i b) k = Memory.read m k := by
  induction m with
  | nil => simp [Memory.write, Memory.read, h]
  | cons c m ih =>
    obtain ⟨j, x⟩ := c
    unfold Memory.write
    split
    · simp [Memory.read, h]
    · split
      · rename_i hij
        subst hij
        simp [Memory.read, h]
      · simp only [Memory.read, ih]

theorem Memory.wfFrom_mono (size low low' : Nat) (m : Memory) (h : low' ≤ low) (hw : Memory.wfFrom size low m = true) :
    Memory.wfFrom size low' m = true := by
  cases m with
  | nil => rfl
  | cons c m =>
    simp only [Memory.wfFrom, Bool.and_eq_true, decide_eq_true_eq] at hw ⊢
    exact ⟨⟨h.trans hw.1.1, hw.1.2⟩, hw.2⟩

theorem Memory.wfFrom_write (size low : Nat) (m : Memory) (i : Nat) (b : Byte) (hl : low ≤ i) (hi : i < size)
    (hw : Memory.wfFrom size low m = true) : Memory.wfFrom size low (Memory.write m i b) = true := by
  induction m generalizing low with
  | nil => simp [Memory.write, Memory.wfFrom, hl, hi]
  | cons c m ih =>
    obtain ⟨j, x⟩ := c
    simp only [Memory.wfFrom, Bool.and_eq_true, decide_eq_true_eq] at hw
    unfold Memory.write
    split
    · rename_i hij
      simp only [Memory.wfFrom, Bool.and_eq_true, decide_eq_true_eq]
      exact ⟨⟨hl, hi⟩, ⟨hij, hw.1.2⟩, hw.2⟩
    · split
      · rename_i hij
        subst hij
        simp only [Memory.wfFrom, Bool.and_eq_true, decide_eq_true_eq]
        exact ⟨⟨hl, hi⟩, hw.2⟩
      · simp only [Memory.wfFrom, Bool.and_eq_true, decide_eq_true_eq]
        exact ⟨hw.1, ih (j + 1) (by omega) hw.2⟩

/-- A write inside a memory keeps its canonical form. -/
theorem Memory.wf_write (size : Nat) (m : Memory) (i : Nat) (b : Byte) (hi : i < size) (hw : Memory.wf size m = true) :
    Memory.wf size (Memory.write m i b) = true :=
  Memory.wfFrom_write size 0 m i b (Nat.zero_le i) hi hw

theorem Memory.read_below (size low : Nat) (m : Memory) (i : Nat) (hw : Memory.wfFrom size low m = true) (hi : i < low) :
    Memory.read m i = none := by
  induction m generalizing low with
  | nil => rfl
  | cons c m ih =>
    obtain ⟨j, x⟩ := c
    simp only [Memory.wfFrom, Bool.and_eq_true, decide_eq_true_eq] at hw
    have hij : i ≠ j := by omega
    simp only [Memory.read, hij, if_false]
    exact ih (j + 1) hw.2 (by omega)

theorem Memory.ext_from (size : Nat) (m m' : Memory) (low : Nat) (hw : Memory.wfFrom size low m = true)
    (hw' : Memory.wfFrom size low m' = true) (h : ∀ i, Memory.read m i = Memory.read m' i) : m = m' := by
  induction m generalizing m' low with
  | nil =>
    cases m' with
    | nil => rfl
    | cons c m' => simpa [Memory.read] using h c.1
  | cons c m ih =>
    obtain ⟨j, x⟩ := c
    cases m' with
    | nil => simpa [Memory.read] using h j
    | cons c' m' =>
      obtain ⟨j', x'⟩ := c'
      simp only [Memory.wfFrom, Bool.and_eq_true, decide_eq_true_eq] at hw hw'
      have hj : j = j' := by
        rcases lt_trichotomy j j' with hlt | heq | hgt
        · have hr := Memory.read_below size (j' + 1) m' j hw'.2 (by omega)
          have := h j
          simp [Memory.read, hlt.ne, hr] at this
        · exact heq
        · have hr := Memory.read_below size (j + 1) m j' hw.2 (by omega)
          have := h j'
          simp [Memory.read, hgt.ne, hr] at this
      subst hj
      have hx : x = x' := by simpa [Memory.read] using h j
      subst hx
      have ht : m = m' := by
        refine ih m' (j + 1) hw.2 hw'.2 fun i => ?_
        by_cases hij : i = j
        · subst hij
          rw [Memory.read_below size (i + 1) m i hw.2 (by omega), Memory.read_below size (i + 1) m' i hw'.2 (by omega)]
        · simpa [Memory.read, hij] using h i
      rw [ht]

/-- Two canonical memories that list the same bytes are the same data. -/
theorem Memory.ext_of_wf (size : Nat) (m m' : Memory) (hw : Memory.wf size m = true) (hw' : Memory.wf size m' = true)
    (h : ∀ i, Memory.read m i = Memory.read m' i) : m = m' :=
  Memory.ext_from size m m' 0 hw hw' h

end Sys2Proof

namespace Sys2Proof.Machine

/-- The program RAM after a store: the stored byte, and every other byte as before. -/
theorem State.prgRamByte_write (s : State) (i j : Nat) (b : Byte) :
    (s.withPrgRam (Memory.write s.prgRam i b)).prgRamByte j = if j = i then b else s.prgRamByte j := by
  by_cases h : j = i
  · subst h
    simp [State.prgRamByte, State.withPrgRam, Memory.read_write_same]
  · simp [State.prgRamByte, State.withPrgRam, Memory.read_write_other _ _ _ _ h, h]

end Sys2Proof.Machine
end

