-- ==== Sys2Proof/Laws/Operands.lean ====
section
/-! SUPPORT. The operand forms as plain arithmetic, and the two outcomes of a ROM read: one lemma per form and case. -/

namespace Sys2Proof

theorem Addr.toNat_and_low (a : Addr) (k : Nat) (m : Addr) (hm : m.toNat = 2 ^ k - 1) : (a &&& m).toNat = a.toNat % 2 ^ k := by
  rw [BitVec.toNat_and, hm, Nat.and_two_pow_sub_one_eq_mod]

theorem Addr.programOffset_eq (a : Addr) : a.programOffset = a.toNat % 0x4000 := a.toNat_and_low 14 0x3FFF rfl

theorem Addr.patternOffset_eq (a : Addr) : a.patternOffset = a.toNat % 0x1000 := a.toNat_and_low 12 0x0FFF rfl

/-- A data byte marks a reset write when it is at least 0x80 (R85). -/
theorem Byte.isReset_iff (d : Byte) : d.isReset = true ↔ 0x80 ≤ d.toNat := by
  revert d
  decide

theorem Byte.isReset_false_iff (d : Byte) : d.isReset = false ↔ d.toNat < 0x80 := by
  revert d
  decide

/-- The register window as a number: the 8 KiB quarter of the address (R83). -/
theorem Addr.registerWindow_toNat (a : Addr) : a.registerWindow.toNat = a.toNat / 0x2000 % 4 := by
  simp [Addr.registerWindow, Nat.shiftRight_eq_div_pow]

theorem Addr.registerWindow_eq_iff (a : Addr) (w : BitVec 2) : a.registerWindow = w ↔ a.toNat / 0x2000 % 4 = w.toNat := by
  rw [← Addr.registerWindow_toNat, BitVec.toNat_inj]

/-- A shift only looks at D[0] (R134). -/
theorem shiftIn_eq_of_bit (sr : Reg5) (d : Byte) : shiftIn sr d = (sr >>> 1) ||| ((BitVec.ofBool (d.getLsbD 0)).setWidth 5 <<< 4) := by
  have h : ∀ d : Byte, (d &&& 1).setWidth 5 = (BitVec.ofBool (d.getLsbD 0)).setWidth 5 := by decide
  rw [shiftIn, h]

/-- The shifted value as a number: the old contents moved down one place, D[0] at bit 4 (R84, R134). -/
theorem shiftIn_toNat (sr : Reg5) (d : Byte) : (shiftIn sr d).toNat = sr.toNat / 2 + 16 * (d.toNat % 2) := by
  have h : ∀ (sr : Reg5) (b : Bool),
      ((sr >>> 1) ||| ((BitVec.ofBool b).setWidth 5 <<< 4)).toNat = sr.toNat / 2 + 16 * b.toNat := by decide
  have hb : ∀ d : Byte, (d.getLsbD 0).toNat = d.toNat % 2 := by decide
  rw [shiftIn_eq_of_bit, h, hb]

end Sys2Proof

namespace Sys2Proof.Machine

theorem State.prgOffset_window0 (s : State) (a : Addr) (h : 0x8000 ≤ a.toNat) (h' : a.toNat ≤ 0xBFFF) :
    s.prgOffset a = s.prgOffsets.w0 + (a.toNat - 0x8000) := by
  have hw : a.programWindow = 0 := by unfold Addr.programWindow; omega
  rw [State.prgOffset, Offsets.entry, if_pos hw, Addr.programOffset_eq]
  omega

theorem State.prgOffset_window1 (s : State) (a : Addr) (h : 0xC000 ≤ a.toNat) :
    s.prgOffset a = s.prgOffsets.w1 + (a.toNat - 0xC000) := by
  have hw : a.programWindow ≠ 0 := by unfold Addr.programWindow; omega
  have := a.isLt
  rw [State.prgOffset, Offsets.entry, if_neg hw, Addr.programOffset_eq]
  omega

theorem State.chrOffset_window0 (s : State) (a : Addr) (h : a.toNat ≤ 0x0FFF) :
    s.chrOffset a = s.chrOffsets.w0 + a.toNat := by
  have hw : a.patternWindow = 0 := by unfold Addr.patternWindow; omega
  rw [State.chrOffset, Offsets.entry, if_pos hw, Addr.patternOffset_eq]
  omega

theorem State.chrOffset_window1 (s : State) (a : Addr) (h : 0x1000 ≤ a.toNat) (h' : a.toNat ≤ 0x1FFF) :
    s.chrOffset a = s.chrOffsets.w1 + (a.toNat - 0x1000) := by
  have hw : a.patternWindow ≠ 0 := by unfold Addr.patternWindow; omega
  rw [State.chrOffset, Offsets.entry, if_neg hw, Addr.patternOffset_eq]
  omega

theorem State.prgRomRead_inside (s : State) (off : Nat) (h : off < s.cart.prgSize) :
    s.prgRomRead off = .next (s.withResult (.byte (s.cart.prgByte off))) := by
  rw [State.prgRomRead, if_pos h, State.answerByte]

theorem State.prgRomRead_outside (s : State) (off : Nat) (h : s.cart.prgSize ≤ off) :
    s.prgRomRead off = .next ((s.withResult .nothing).withFaulted (some (.romBounds .prg off))) := by
  rw [State.prgRomRead, if_neg (Nat.not_lt.mpr h), State.raise]

theorem State.chrRomRead_inside (s : State) (off : Nat) (h : off < s.cart.chrSize) :
    s.chrRomRead off = .next (s.withResult (.byte (s.cart.chrByte off))) := by
  rw [State.chrRomRead, if_pos h, State.answerByte]

theorem State.chrRomRead_outside (s : State) (off : Nat) (h : s.cart.chrSize ≤ off) :
    s.chrRomRead off = .next ((s.withResult .nothing).withFaulted (some (.romBounds .chr off))) := by
  rw [State.chrRomRead, if_neg (Nat.not_lt.mpr h), State.raise]

end Sys2Proof.Machine
end

