-- ==== Sys2Proof/Laws/PerInstr.lean ====
section
/-! SUPPORT. Statements about every instruction, one lemma per constructor. Family WordFields: the word of a bus operation carries its kind, its address and, for a write, its data byte, and 0 for the data of a read (30_encoding.md R80). -/

namespace Sys2Proof

/-- The kind K of an instruction's transaction, its address and its data byte (R80, R87); none where it has no transaction word. -/
def Laws.busFields : Instr → Option (BitVec 2 × Addr × Byte)
  | .nRdLow a | .nRdPrg a | .mRdLow a | .mRdRam a | .mRdPrg a => some (0, a, 0)
  | .nWr a d | .mWrIgn a d | .mWrRam a d | .mWrReset a d | .mWrShift a d => some (1, a, d)
  | .mWrCommitCtrl a d | .mWrCommitChr0 a d | .mWrCommitChr1 a d | .mWrCommitPrg a d => some (1, a, d)
  | .nChr a | .nChrOor a | .mChr a | .mChrOor a => some (2, a, 0)
  | .constructNrom _ | .constructMmc1 _ | .constructBad _ | .mapsChr | .recompute => none

/-- The fields of the instruction's word are the instruction's. -/
def Laws.WordFields.Statement (i : Instr) : Prop :=
  (encodeWord i).map (fun t => (t.kind, t.addr, t.data)) = Laws.busFields i

theorem Laws.WordFields.nRdLow (a : Addr) : Laws.WordFields.Statement (.nRdLow a) := by
  simp [Laws.WordFields.Statement, encodeWord, Laws.busFields, Word26.cpuRead]

theorem Laws.WordFields.nRdPrg (a : Addr) : Laws.WordFields.Statement (.nRdPrg a) := by
  simp [Laws.WordFields.Statement, encodeWord, Laws.busFields, Word26.cpuRead]

theorem Laws.WordFields.nWr (a : Addr) (d : Byte) : Laws.WordFields.Statement (.nWr a d) := by
  simp [Laws.WordFields.Statement, encodeWord, Laws.busFields, Word26.cpuWrite]

theorem Laws.WordFields.nChr (a : Addr) : Laws.WordFields.Statement (.nChr a) := by
  simp [Laws.WordFields.Statement, encodeWord, Laws.busFields, Word26.ppuRead]

theorem Laws.WordFields.nChrOor (a : Addr) : Laws.WordFields.Statement (.nChrOor a) := by
  simp [Laws.WordFields.Statement, encodeWord, Laws.busFields, Word26.ppuRead]

theorem Laws.WordFields.mRdLow (a : Addr) : Laws.WordFields.Statement (.mRdLow a) := by
  simp [Laws.WordFields.Statement, encodeWord, Laws.busFields, Word26.cpuRead]

theorem Laws.WordFields.mRdRam (a : Addr) : Laws.WordFields.Statement (.mRdRam a) := by
  simp [Laws.WordFields.Statement, encodeWord, Laws.busFields, Word26.cpuRead]

theorem Laws.WordFields.mRdPrg (a : Addr) : Laws.WordFields.Statement (.mRdPrg a) := by
  simp [Laws.WordFields.Statement, encodeWord, Laws.busFields, Word26.cpuRead]

theorem Laws.WordFields.mWrIgn (a : Addr) (d : Byte) : Laws.WordFields.Statement (.mWrIgn a d) := by
  simp [Laws.WordFields.Statement, encodeWord, Laws.busFields, Word26.cpuWrite]

theorem Laws.WordFields.mWrRam (a : Addr) (d : Byte) : Laws.WordFields.Statement (.mWrRam a d) := by
  simp [Laws.WordFields.Statement, encodeWord, Laws.busFields, Word26.cpuWrite]

theorem Laws.WordFields.mWrReset (a : Addr) (d : Byte) : Laws.WordFields.Statement (.mWrReset a d) := by
  simp [Laws.WordFields.Statement, encodeWord, Laws.busFields, Word26.cpuWrite]

theorem Laws.WordFields.mWrShift (a : Addr) (d : Byte) : Laws.WordFields.Statement (.mWrShift a d) := by
  simp [Laws.WordFields.Statement, encodeWord, Laws.busFields, Word26.cpuWrite]

theorem Laws.WordFields.mWrCommitCtrl (a : Addr) (d : Byte) : Laws.WordFields.Statement (.mWrCommitCtrl a d) := by
  simp [Laws.WordFields.Statement, encodeWord, Laws.busFields, Word26.cpuWrite]

theorem Laws.WordFields.mWrCommitChr0 (a : Addr) (d : Byte) : Laws.WordFields.Statement (.mWrCommitChr0 a d) := by
  simp [Laws.WordFields.Statement, encodeWord, Laws.busFields, Word26.cpuWrite]

theorem Laws.WordFields.mWrCommitChr1 (a : Addr) (d : Byte) : Laws.WordFields.Statement (.mWrCommitChr1 a d) := by
  simp [Laws.WordFields.Statement, encodeWord, Laws.busFields, Word26.cpuWrite]

theorem Laws.WordFields.mWrCommitPrg (a : Addr) (d : Byte) : Laws.WordFields.Statement (.mWrCommitPrg a d) := by
  simp [Laws.WordFields.Statement, encodeWord, Laws.busFields, Word26.cpuWrite]

theorem Laws.WordFields.mChr (a : Addr) : Laws.WordFields.Statement (.mChr a) := by
  simp [Laws.WordFields.Statement, encodeWord, Laws.busFields, Word26.ppuRead]

theorem Laws.WordFields.mChrOor (a : Addr) : Laws.WordFields.Statement (.mChrOor a) := by
  simp [Laws.WordFields.Statement, encodeWord, Laws.busFields, Word26.ppuRead]

theorem Laws.WordFields.constructNrom (cart : Cartridge) : Laws.WordFields.Statement (.constructNrom cart) := rfl

theorem Laws.WordFields.constructMmc1 (cart : Cartridge) : Laws.WordFields.Statement (.constructMmc1 cart) := rfl

theorem Laws.WordFields.constructBad (mapperId : Nat) : Laws.WordFields.Statement (.constructBad mapperId) := rfl

theorem Laws.WordFields.mapsChr : Laws.WordFields.Statement .mapsChr := rfl

theorem Laws.WordFields.recompute : Laws.WordFields.Statement .recompute := rfl

end Sys2Proof
end

