-- ==== Sys2Proof/Laws/Step.lean ====
section
/-! SUPPORT. A run of steps, one step at a time. -/

namespace Sys2Proof.Machine

@[simp] theorem State.run_zero (s : State) : s.run 0 = .next s := rfl

/-- One step of a run. -/
theorem State.run_succ (k : Nat) (s t : State) (h : step s = .next t) : s.run (k + 1) = t.run k := by
  rw [State.run, h]

/-- A run that answers a next state answered one at its first step. -/
theorem State.run_succ_next (k : Nat) (s t : State) (h : s.run (k + 1) = .next t) : ∃ u, step s = .next u ∧ u.run k = .next t := by
  rw [State.run] at h
  split at h
  · exact ⟨_, ‹_›, h⟩
  · cases h
  · cases h

/-- One step of the host's run. -/
theorem host_run_succ (M : Host.Core) (k : Nat) (s : M.State) :
    M.run (k + 1) s = match M.step s with
      | .next t => M.run k t
      | .fault r => .fault r
      | .refused r => .refused r := rfl

/-- The host's run is the same run. -/
theorem core_run_eq (k : Nat) (s : State) : Sys2Proof.core.run k s = s.run k := by
  induction k generalizing s with
  | zero => rfl
  | succ k ih =>
    refine (host_run_succ Sys2Proof.core k s).trans ?_
    rw [State.run]
    cases h : step s with
    | next t =>
      rw [show Sys2Proof.core.step s = .next t from h]
      exact ih t
    | fault r => rw [show Sys2Proof.core.step s = .fault r from h]; rfl
    | refused r => rw [show Sys2Proof.core.step s = .refused r from h]; rfl

end Sys2Proof.Machine
end

