-- ==== Sys2Proof/Tests/Slice0.lean ====
section
/-! SUPPORT. The row's own tests: ill-formed terms, words written out from 30_encoding.md and 95_test_vectors.md, one or two steps' worth of vectors per operation, and for each statement with hypotheses a state and operands that meet them. -/

namespace Sys2Proof.Tests

open Sys2Proof Sys2Proof.Machine Sys2Proof.Claims

/-! ## Small states -/

/-- A cartridge of `banks` program banks and `chr` bytes of CHR ROM, no byte listed. -/
def cartOf (banks chr : Nat) : Cartridge := { Cartridge.atReset with prgBanks := banks, chrSize := chr, mirroring := .horizontal }

/-- A constructed NROM block. -/
def nromOf (banks chr : Nat) : State := { State.reset with variant := .nrom, cart := cartOf banks chr }

/-- A constructed MMC1 block in its construction state (R40). -/
def mmc1Of (banks chr : Nat) : State :=
  { State.reset with cart := cartOf banks chr, prgOffsets := ⟨0, (banks - 1) * 0x4000⟩ }

/-- The same in the middle of the serial protocol. -/
def inProtocol (s : State) (sr : Reg5) (sc : Nat) : State := { s with shiftRegister := sr, shiftCount := sc }

/-- The block of the read vectors of 95_test_vectors.md 2.5. -/
def readBlock : State :=
  { mmc1Of 8 0x8000 with
    control := 0x1F, prgSelect := 5, chr0Select := 7, chr1Select := 3
    prgOffsets := ⟨0x14000, 0x1C000⟩, chrOffsets := ⟨0x7000, 0x3000⟩ }

/-- A cartridge of two banks and 8 KiB of CHR ROM that lists different bytes at the same offsets of its two images. -/
def listedCart : Cartridge := { cartOf 2 0x2000 with prgRom := [(0, 0x11), (0x4001, 0x22)], chrRom := [(0, 0x33), (0x1001, 0x44)] }

/-- One field of the next state, if there is one. -/
def look {α : Type} (o : Out) (f : State → α) : Option α :=
  match o with
  | .next t => some (f t)
  | .fault _ => none
  | .refused _ => none

theorem next_of_look {α : Type} (o : Out) (f : State → α) (x : α) (h : look o f = some x) : ∃ t, o = .next t ∧ f t = x := by
  cases o with
  | next t => exact ⟨t, rfl, Option.some.inj h⟩
  | fault r => cases h
  | refused r => cases h

/-- Whether an outcome is a refusal. -/
def isRefused (o : Out) : Bool :=
  match o with
  | .next _ => false
  | .fault _ => false
  | .refused _ => true

/-! ## Ill-formed terms, one per check of Instr.wf and Cartridge.wf -/

theorem test_wf_nrom_reads : (Instr.nRdLow 0x8000).wf = false ∧ (Instr.nRdPrg 0x7FFF).wf = false ∧
    (Instr.nChr 0x2000).wf = false ∧ (Instr.nChrOor 0x1FFF).wf = false := by decide

theorem test_wf_mmc1_reads : (Instr.mRdLow 0x6000).wf = false ∧ (Instr.mRdRam 0x5FFF).wf = false ∧ (Instr.mRdRam 0x8000).wf = false ∧
    (Instr.mRdPrg 0x7FFF).wf = false ∧ (Instr.mChr 0x2000).wf = false ∧ (Instr.mChrOor 0x1FFF).wf = false := by decide

theorem test_wf_mmc1_writes : (Instr.mWrIgn 0x6000 0).wf = false ∧ (Instr.mWrRam 0x5FFF 0).wf = false ∧ (Instr.mWrRam 0x8000 0).wf = false ∧
    (Instr.mWrReset 0x7FFF 0x80).wf = false ∧ (Instr.mWrReset 0x8000 0x7F).wf = false ∧
    (Instr.mWrShift 0x7FFF 0).wf = false ∧ (Instr.mWrShift 0x8000 0x80).wf = false := by decide

theorem test_wf_commits : (Instr.mWrCommitCtrl 0x7FFF 0).wf = false ∧ (Instr.mWrCommitCtrl 0xA000 0).wf = false ∧
    (Instr.mWrCommitCtrl 0x8000 0x80).wf = false ∧ (Instr.mWrCommitChr0 0x9FFF 0).wf = false ∧ (Instr.mWrCommitChr0 0xC000 0).wf = false ∧
    (Instr.mWrCommitChr0 0xA000 0x80).wf = false ∧ (Instr.mWrCommitChr1 0xBFFF 0).wf = false ∧ (Instr.mWrCommitChr1 0xE000 0).wf = false ∧
    (Instr.mWrCommitChr1 0xC000 0x80).wf = false ∧ (Instr.mWrCommitPrg 0xDFFF 0).wf = false ∧
    (Instr.mWrCommitPrg 0xE000 0x80).wf = false := by decide

theorem test_wf_construct : (Instr.constructBad 1).wf = false ∧ (Instr.constructNrom (cartOf 0 0)).wf = false ∧
    (Instr.constructMmc1 { cartOf 1 0 with prgRom := [(0x4000, 0)] }).wf = false ∧
    (Instr.constructMmc1 { cartOf 1 0 with chrRom := [(0, 0)] }).wf = false ∧
    (Instr.constructMmc1 { cartOf 1 0 with prgRamInit := [(1, 0), (1, 0)] }).wf = false := by decide

theorem test_row_selected : (Instr.mRdPrg 0x8000).rowSelected .nrom 0 = false ∧ (Instr.nRdPrg 0x8000).rowSelected .mmc1 0 = false ∧
    (Instr.mWrShift 0x8000 0).rowSelected .mmc1 4 = false ∧ (Instr.mWrCommitPrg 0xE000 0).rowSelected .mmc1 3 = false := by decide

/-! ## Decoding: each constructor with a word, K A D written out bit by bit (R80) -/

/-- K = 00. A = 0111111111111111 (V-N14), 1100000000000000 (V-N4). K = 01, A = 0110000100100011, D = 10101011 (V-N18). -/
theorem test_decode_nrom_cpu :
    decodeWord .nrom 0 0b00_0111111111111111_00000000 = .ok (.nRdLow 0x7FFF) ∧
    decodeWord .nrom 0 0b00_1100000000000000_00000000 = .ok (.nRdPrg 0xC000) ∧
    decodeWord .nrom 0 0b01_0110000100100011_10101011 = .ok (.nWr 0x6123 0xAB) := by decide

/-- K = 10. A = 0001111111111111 (V-N22), 0010000000000000 (V-N23). -/
theorem test_decode_nrom_ppu :
    decodeWord .nrom 0 0b10_0001111111111111_00000000 = .ok (.nChr 0x1FFF) ∧
    decodeWord .nrom 0 0b10_0010000000000000_00000000 = .ok (.nChrOor 0x2000) := by decide

/-- The three CpuRead ranges of R160 at their ends (V-RD6, V-RD7, V-RD8, V-RD1). -/
theorem test_decode_mmc1_read :
    decodeWord .mmc1 0 0b00_0101111111111111_00000000 = .ok (.mRdLow 0x5FFF) ∧
    decodeWord .mmc1 0 0b00_0110000000000000_00000000 = .ok (.mRdRam 0x6000) ∧
    decodeWord .mmc1 0 0b00_0111111111111111_00000000 = .ok (.mRdRam 0x7FFF) ∧
    decodeWord .mmc1 0 0b00_1000000000000000_00000000 = .ok (.mRdPrg 0x8000) := by decide

/-- V-RD10, V-RD13. -/
theorem test_decode_mmc1_ppu :
    decodeWord .mmc1 0 0b10_0000111111111111_00000000 = .ok (.mChr 0x0FFF) ∧
    decodeWord .mmc1 0 0b10_1111111111111111_00000000 = .ok (.mChrOor 0xFFFF) := by decide

/-- V-W2, V-W5, V-W10, V-W8. -/
theorem test_decode_mmc1_write :
    decodeWord .mmc1 0 0b01_0101111111111111_10000000 = .ok (.mWrIgn 0x5FFF 0x80) ∧
    decodeWord .mmc1 0 0b01_0111111111111111_01011010 = .ok (.mWrRam 0x7FFF 0x5A) ∧
    decodeWord .mmc1 4 0b01_1111111111111111_11111111 = .ok (.mWrReset 0xFFFF 0xFF) ∧
    decodeWord .mmc1 3 0b01_1111111111111111_01111111 = .ok (.mWrShift 0xFFFF 0x7F) := by decide

/-- The last address of each register window, and the first of the last (V-W16, V-W17, V-W18, V-W13). -/
theorem test_decode_commits :
    decodeWord .mmc1 4 0b01_1001111111111111_00000001 = .ok (.mWrCommitCtrl 0x9FFF 1) ∧
    decodeWord .mmc1 4 0b01_1011111111111111_00000000 = .ok (.mWrCommitChr0 0xBFFF 0) ∧
    decodeWord .mmc1 4 0b01_1101111111111111_00000000 = .ok (.mWrCommitChr1 0xDFFF 0) ∧
    decodeWord .mmc1 4 0b01_1110000000000000_00000000 = .ok (.mWrCommitPrg 0xE000 0) := by decide

/-- K = 11 spells no transaction (R80, R89). -/
theorem test_decode_refuses_kind_three : decodeWord .mmc1 0 0b11_1000000000000000_00000000 = .error (.notATransaction 0x3800000) ∧
    decodeTableWord 32 0x3800000 = none ∧ decodeTableWord 32 (0x800000 + 2 ^ 26) = none := by decide

/-- V-D2, V-D1, V-D6 and MapsChr: the operations without a word. -/
theorem test_decode_requests : decodeRequest .nrom 0 (.construct 1 (cartOf 8 0)) = .ok (.constructMmc1 (cartOf 8 0)) ∧
    decodeRequest .mmc1 0 (.construct 0 (cartOf 1 0)) = .ok (.constructNrom (cartOf 1 0)) ∧
    decodeRequest .mmc1 0 (.construct 4 (cartOf 2 0)) = .ok (.constructBad 4) ∧ decodeRequest .mmc1 0 .mapsChr = .ok .mapsChr :=
  ⟨rfl, rfl, rfl, rfl⟩

/-- RECOMPUTE is internal: no request issues it (R87). -/
theorem test_encode_recompute : encode .recompute = none ∧ encodeWord (.mWrShift 0xFFFF 0x7F) = some 0x1FFFF7F := by decide

/-! ## Steps on the vectors of 95_test_vectors.md -/

/-- R40, R190: the construction state. -/
theorem test_reset : State.reset.control = 0x1C ∧ State.reset.prgOffsets = ⟨0, 0⟩ ∧ State.reset.shiftCount = 0 ∧
    look (step State.reset) (·.pending) = some [] := by decide

/-- A word placed at reset is what the next step performs (V-W6). -/
theorem test_fetch_word : look (step (State.reset.withFetchWord 32 0x1800001)) (fun t => (t.shiftRegister, t.shiftCount)) = some (0x10, 1) := by decide

/-- V-N14. -/
theorem test_nrom_low_read : look (exec (.nRdLow 0x7FFF) (nromOf 1 0)) (·.faulted) = some (some (.addressRange .cpu 0x7FFF)) := by decide

/-- V-N6, and V-N4: the boundary read with one bank. -/
theorem test_nrom_prg_read : look (exec (.nRdPrg 0xFFFC) (nromOf 1 0)) (·.result) = some (.byte (Config.prgRom 0 0x3FFC)) := rfl

theorem test_nrom_prg_boundary : look (exec (.nRdPrg 0xC000) (nromOf 1 0)) (·.faulted) = some (some (.romBounds .prg 0x4000)) := by decide

/-- V-N8 and V-N20 with listed bytes: a program read answers the program image's byte, a pattern read the pattern image's (R36). -/
theorem test_nrom_listed_bytes : look (exec (.nRdPrg 0x8000) { nromOf 2 0x2000 with cart := listedCart }) (·.result) = some (.byte 0x11) ∧
    look (exec (.nChr 0) { nromOf 2 0x2000 with cart := listedCart }) (·.result) = some (.byte 0x33) := by decide

/-- V-N17. -/
theorem test_nrom_write : look (exec (.nWr 0x8000 0x80) (nromOf 1 0)) (fun t => (t.faulted, t.result)) = some (none, .nothing) := by decide

/-- V-N22, V-N25. -/
theorem test_nrom_chr : look (exec (.nChr 0x1FFF) (nromOf 1 0x2000)) (·.result) = some (.byte (Config.chrRom 0 0x1FFF)) := rfl

theorem test_nrom_chr_short : look (exec (.nChr 0x1000) (nromOf 1 0x1000)) (·.faulted) = some (some (.romBounds .chr 0x1000)) := by decide

/-- V-N23. -/
theorem test_nrom_chr_oor : look (exec (.nChrOor 0x2000) (nromOf 1 0x2000)) (·.faulted) = some (some (.addressRange .ppu 0x2000)) := by decide

/-- V-RD6. -/
theorem test_mmc1_low_read : look (exec (.mRdLow 0x5FFF) readBlock) (·.faulted) = some (some (.addressRange .cpu 0x5FFF)) := by decide

/-- V-RD7, and V-RD8 with the byte already stored. -/
theorem test_mmc1_ram_unwritten : look (exec (.mRdRam 0x6000) readBlock) (·.result) = some (.byte (Config.prgRamInit 0 0)) := rfl

theorem test_mmc1_ram_read : look (exec (.mRdRam 0x7FFF) { readBlock with prgRam := [(0x1FFF, 0x5A)] }) (·.result) = some (.byte 0x5A) := by decide

/-- V-RD2, and V-F7: the last byte of the ROM. -/
theorem test_mmc1_prg_window0 : look (exec (.mRdPrg 0xBFFF) readBlock) (·.result) = some (.byte (Config.prgRom 0 0x17FFF)) := rfl

theorem test_mmc1_prg_window1 : look (exec (.mRdPrg 0xFFFF) readBlock) (·.result) = some (.byte (Config.prgRom 0 0x1FFFF)) := rfl

/-- R163, R164 with listed bytes: the second byte of each upper window, the offsets at 0x4000 and 0x1000. -/
theorem test_mmc1_listed_bytes :
    look (exec (.mRdPrg 0xC001) { mmc1Of 2 0x2000 with cart := listedCart }) (·.result) = some (.byte 0x22) ∧
    look (exec (.mChr 0x1001) { mmc1Of 2 0x2000 with cart := listedCart, chrOffsets := ⟨0, 0x1000⟩ }) (·.result) = some (.byte 0x44) := by decide

/-- V-RD10, V-RD11. -/
theorem test_mmc1_chr_window0 : look (exec (.mChr 0x0FFF) readBlock) (·.result) = some (.byte (Config.chrRom 0 0x7FFF)) := rfl

theorem test_mmc1_chr_window1 : look (exec (.mChr 0x1123) readBlock) (·.result) = some (.byte (Config.chrRom 0 0x3123)) := rfl

/-- V-RD13. -/
theorem test_mmc1_chr_oor : look (exec (.mChrOor 0xFFFF) readBlock) (·.faulted) = some (some (.addressRange .ppu 0xFFFF)) := by decide

/-- V-W2: bit 7 means nothing below 0x8000. -/
theorem test_mmc1_ignored : look (exec (.mWrIgn 0x5FFF 0x80) (inProtocol readBlock 0x0C 3)) (fun t => (t.shiftCount, t.prgRam)) = some (3, []) := by decide

/-- V-W5, and V-W3. -/
theorem test_mmc1_ram_write : look (exec (.mWrRam 0x7FFF 0x5A) readBlock) (·.prgRam) = some [(0x1FFF, 0x5A)] := by decide

theorem test_mmc1_ram_write_low : look (exec (.mWrRam 0x6000 0x80) { readBlock with prgRam := [(0, 0x01), (1, 0x02)] }) (·.prgRam) =
    some [(0, 0x80), (1, 0x02)] := by decide

/-- V-W10, V-W11. -/
theorem test_mmc1_reset : look (exec (.mWrReset 0xFFFF 0xFF) { inProtocol (mmc1Of 8 0) 0x0C 3 with control := 2, prgSelect := 5 })
    (fun t => (t.control, t.shiftRegister, t.shiftCount, t.prgOffsets)) = some (0x0E, 0, 0, ⟨0x14000, 0x1C000⟩) := by decide

theorem test_mmc1_reset_commits_nothing : look (exec (.mWrReset 0x8000 0x80) { inProtocol (mmc1Of 8 0) 0x1E 4 with control := 0x10 })
    (fun t => (t.control, t.shiftCount)) = some (0x1C, 0) := by decide

/-- V-W8, V-W9. -/
theorem test_mmc1_shift_one : look (exec (.mWrShift 0xFFFF 0x7F) (inProtocol readBlock 0x08 2)) (fun t => (t.shiftRegister, t.shiftCount)) =
    some (0x14, 3) := by decide

theorem test_mmc1_shift_zero : look (exec (.mWrShift 0x8000 0x02) (inProtocol readBlock 0x14 3)) (fun t => (t.shiftRegister, t.shiftCount)) =
    some (0x0A, 4) := by decide

/-- V-W15, V-W16. -/
theorem test_mmc1_commit_control : look (exec (.mWrCommitCtrl 0x8000 0) (inProtocol (mmc1Of 8 0) 0x1C 4))
    (fun t => (t.control, t.cart.mirroring, t.chrOffsets, t.prgOffsets)) = some (0x0E, .vertical, ⟨0, 0x1000⟩, ⟨0, 0x1C000⟩) := by decide

theorem test_mmc1_commit_control_last : look (exec (.mWrCommitCtrl 0x9FFF 1) { inProtocol (mmc1Of 8 0) 0x1E 4 with chr0Select := 7 })
    (fun t => (t.control, t.cart.mirroring, t.chrOffsets)) = some (0x1F, .horizontal, ⟨0x7000, 0⟩) := by decide

/-- V-W17. -/
theorem test_mmc1_commit_chr0 : look (exec (.mWrCommitChr0 0xBFFF 0) { inProtocol (mmc1Of 8 0) 0x0E 4 with control := 0x0E })
    (fun t => (t.chr0Select, t.chrOffsets)) = some (7, ⟨0x6000, 0x7000⟩) := by decide

/-- V-W18. -/
theorem test_mmc1_commit_chr1 : look (exec (.mWrCommitChr1 0xDFFF 0) { inProtocol (mmc1Of 8 0) 0x06 4 with control := 0x1F, chr0Select := 7 })
    (fun t => (t.chr1Select, t.chrOffsets)) = some (3, ⟨0x7000, 0x3000⟩) := by decide

/-- V-W14, V-W13. -/
theorem test_mmc1_commit_prg : look (exec (.mWrCommitPrg 0xE000 1) (inProtocol (mmc1Of 16 0) 0x0A 4))
    (fun t => (t.prgSelect, t.prgOffsets, t.shiftCount)) = some (0x15, ⟨0x54000, 0x3C000⟩, 0) := by decide

theorem test_mmc1_commit_prg_zero : look (exec (.mWrCommitPrg 0xE000 0) (inProtocol (mmc1Of 16 0) 0x0A 4))
    (fun t => (t.prgSelect, t.prgOffsets)) = some (0x05, ⟨0x14000, 0x3C000⟩) := by decide

/-- 95_test_vectors.md 2.4: the row prgSelect 0x1F in the 32 KiB column, and the row 0x05 with the first bank fixed. -/
theorem test_recompute_32k : look (exec .recompute { mmc1Of 16 0 with control := 0x00, prgSelect := 0x1F, chr0Select := 0x1F, chr1Select := 0x1F })
    (fun t => (t.prgOffsets, t.chrOffsets)) = some (⟨0x38000, 0x3C000⟩, ⟨0x1E000, 0x1F000⟩) := by decide

theorem test_recompute_first_fixed : look (exec .recompute { mmc1Of 16 0 with control := 0x18, prgSelect := 0x05, chr0Select := 0x1E, chr1Select := 0x1F })
    (fun t => (t.prgOffsets, t.chrOffsets)) = some (⟨0, 0x14000⟩, ⟨0x1E000, 0x1F000⟩) := by decide

/-- V-D2 and V-D1. -/
theorem test_construct_mmc1 : look (exec (.constructMmc1 (cartOf 8 0)) readBlock) (fun t => (t.control, t.prgSelect, t.prgOffsets)) =
    some (0x1C, 0, ⟨0, 0x1C000⟩) := by decide

theorem test_construct_nrom : look (exec (.constructNrom (cartOf 1 0)) readBlock) (fun t => (t.variant, mapsChrOf t.variant)) =
    some (.nrom, false) := by decide

/-- V-D6. -/
theorem test_construct_bad : exec (.constructBad 4) readBlock = .fault (.unsupportedMapper 4) := rfl

/-- V-D7. -/
theorem test_maps_chr : look (exec .mapsChr readBlock) (·.result) = some (.flag true) := by decide

/-- R176 (d): nothing is answered after a fault. -/
theorem test_halted : exec (.mRdRam 0x6000) { readBlock with faulted := some (.romBounds .prg 0x7C000) } =
    .fault (.halted (.romBounds .prg 0x7C000)) := rfl

/-- R170, R37: the codes of the faults and of the mirroring modes. -/
theorem test_codes : (FaultRecord.unsupportedMapper 4).code = 1 ∧ (FaultRecord.addressRange .cpu 0).code = 2 ∧ (FaultRecord.romBounds .prg 0).code = 3 ∧
    (∀ v : Reg5, (Mirroring.ofControl v).bits = v.extractLsb' 0 2) := by decide

theorem test_not_this_row : isRefused (exec (.mWrShift 0x8000 0) (inProtocol readBlock 0 4)) = true ∧
    isRefused (exec (.nRdPrg 0x8000) readBlock) = true := by decide

/-! ## Witnesses: for each statement with hypotheses, a state and operands that meet them, at the ends of each clause -/

theorem witness_ConstructionBuildsTheVariant : (cartOf 8 0x8000).wf = true := by decide

theorem witness_UnsupportedIdentifierStops : 2 ≤ 2 := by decide

theorem witness_ConstructionRefusesABrokenCartridge : (cartOf 0 0).prgBanks = 0 ∧
    1 ≤ (cartOf 1 0).prgBanks ∧ ({ cartOf 1 0 with prgRom := [(0x4000, 0)] } : Cartridge).imagesWf = false := by decide

theorem witness_MapsChrIsAConstantOfTheVariant : (nromOf 1 0).faulted = none ∧ (nromOf 1 0).variant = .nrom ∧
    readBlock.faulted = none ∧ readBlock.variant = .mmc1 ∧
    exec (.mWrShift 0x8000 1) (mmc1Of 1 0) = .next (inProtocol (mmc1Of 1 0) 0x10 1) ∧ isConstruct (.mWrShift 0x8000 1) = false :=
  ⟨rfl, rfl, rfl, rfl, rfl, rfl⟩

theorem witness_SessionKeepsVariantAndParameters :
    exec (.mWrShift 0x8000 1) (mmc1Of 1 0) = .next { inProtocol (mmc1Of 1 0) 0x10 1 with result := .nothing } ∧
    isConstruct (.mWrShift 0x8000 1) = false := ⟨rfl, rfl⟩

theorem witness_NromProgramReadFollowsItsBase : (nromOf 1 0).answers .nrom ∧ 0x8000 ≤ (0x8000 : Addr).toNat ∧
    0x8000 ≤ (0xC000 : Addr).toNat ∧ 0x8000 ≤ (0xFFFF : Addr).toNat := by decide

theorem witness_NromMirrorsOneBankAndReadsTwoLinearly : (nromOf 1 0).answers .nrom ∧ (nromOf 1 0).cart.prgBanks = 1 ∧
    (0x8001 ≤ (0x8001 : Addr).toNat ∧ (0x8001 : Addr).toNat ≤ 0xBFFF) ∧ (0x8001 ≤ (0xBFFF : Addr).toNat ∧ (0xBFFF : Addr).toNat ≤ 0xBFFF) ∧
    (nromOf 2 0).answers .nrom ∧ (nromOf 2 0).cart.prgBanks = 2 ∧ 0 ≤ 0x7FFF ∧ 0x7FFF ≤ 0x7FFF := by decide

theorem witness_NromLowReadFaults : (nromOf 1 0).answers .nrom ∧ (0x7FFF : Addr).toNat < 0x8000 := by decide

theorem witness_NromWritesDoNothing : (nromOf 1 0).answers .nrom := by decide

theorem witness_NromPatternReadPassesThrough : (nromOf 1 0).answers .nrom ∧ (0x1FFF : Addr).toNat ≤ 0x1FFF := by decide

theorem witness_NromPatternReadOutOfRangeFaults : (nromOf 1 0).answers .nrom ∧ 0x2000 ≤ (0x2000 : Addr).toNat := by decide

/-- Two NROM blocks that differ in every idle field and in the mirroring cell. -/
theorem witness_NromBlockHasNoStateOfItsOwn : (nromOf 1 0).variant = .nrom ∧
    ({ readBlock with variant := .nrom, cart := { cartOf 1 0 with mirroring := .vertical } } : State).variant = .nrom ∧
    ({ cartOf 1 0 with mirroring := .vertical } : Cartridge) = { (nromOf 1 0).cart with mirroring := .vertical } ∧
    readBlock.faulted = (nromOf 1 0).faulted ∧ isConstruct (.nRdLow 0) = false ∧
    exec (.nRdLow 0) (nromOf 1 0) = .next { nromOf 1 0 with faulted := some (.addressRange .cpu 0) } := ⟨rfl, rfl, rfl, rfl, rfl, rfl⟩

theorem witness_Mmc1LowReadFaults : readBlock.answers .mmc1 ∧ (0x5FFF : Addr).toNat < 0x6000 := by decide

theorem witness_ProgramRamReadReturnsItsByte : readBlock.answers .mmc1 ∧ (0x6000 ≤ (0x6000 : Addr).toNat ∧ (0x6000 : Addr).toNat ≤ 0x7FFF) ∧
    (0x6000 ≤ (0x7FFF : Addr).toNat ∧ (0x7FFF : Addr).toNat ≤ 0x7FFF) := by decide

theorem witness_Mmc1ProgramReadUsesItsWindow : readBlock.answers .mmc1 ∧ (0x8000 ≤ (0x8000 : Addr).toNat ∧ (0x8000 : Addr).toNat ≤ 0xBFFF) ∧
    (0x8000 ≤ (0xBFFF : Addr).toNat ∧ (0xBFFF : Addr).toNat ≤ 0xBFFF) ∧ 0xC000 ≤ (0xC000 : Addr).toNat ∧ 0xC000 ≤ (0xFFFF : Addr).toNat := by decide

theorem witness_Mmc1PatternReadUsesItsWindow : readBlock.answers .mmc1 ∧ (0x0FFF : Addr).toNat ≤ 0x0FFF ∧
    (0x1000 ≤ (0x1000 : Addr).toNat ∧ (0x1000 : Addr).toNat ≤ 0x1FFF) ∧ (0x1000 ≤ (0x1FFF : Addr).toNat ∧ (0x1FFF : Addr).toNat ≤ 0x1FFF) := by decide

theorem witness_Mmc1PatternReadOutOfRangeFaults : readBlock.answers .mmc1 ∧ 0x2000 ≤ (0x2000 : Addr).toNat := by decide

theorem witness_ConstructedBlockShowsFirstAndLastBank : (cartOf 8 0x1000).wf = true ∧ 0x1000 ≤ (cartOf 8 0x1000).chrSize ∧
    (0x8000 ≤ (0xBFFF : Addr).toNat ∧ (0xBFFF : Addr).toNat ≤ 0xBFFF) ∧ 0xC000 ≤ (0xC000 : Addr).toNat ∧ (0x1FFF : Addr).toNat ≤ 0x1FFF := by decide

theorem witness_LowWriteIsIgnored : readBlock.answers .mmc1 ∧ (0x5FFF : Addr).toNat < 0x6000 := by decide

theorem witness_ProgramRamWriteStoresOneByte : readBlock.answers .mmc1 ∧ 0x6000 ≤ (0x7FFF : Addr).toNat ∧ (0x7FFF : Addr).toNat ≤ 0x7FFF ∧
    0 ≠ (0x7FFF : Addr).toNat - 0x6000 := by decide

theorem witness_ProgramRamReadSeesTheWrite : readBlock.answers .mmc1 ∧ (0x6000 ≤ (0x6000 : Addr).toNat ∧ (0x6000 : Addr).toNat ≤ 0x7FFF) ∧
    0x6000 ≤ (0x7FFF : Addr).toNat ∧ (0x7FFF : Addr).toNat ≤ 0x7FFF := by decide

theorem witness_OnlyRamWritesChangeTheProgramRam :
    exec (.mWrShift 0x8000 1) (mmc1Of 1 0) = .next { inProtocol (mmc1Of 1 0) 0x10 1 with result := .nothing } ∧
    isConstruct (.mWrShift 0x8000 1) = false ∧ ∀ a d, Instr.mWrShift 0x8000 1 ≠ .mWrRam a d := ⟨rfl, rfl, nofun⟩

theorem witness_ResetWriteClearsTheProtocol : (inProtocol readBlock 0x0C 3).answers .mmc1 ∧ 0x8000 ≤ (0x8000 : Addr).toNat ∧
    0x80 ≤ (0x80 : Byte).toNat ∧
    (mmc1Of 8 0).answers .mmc1 ∧ (mmc1Of 8 0).Inv ∧ (mmc1Of 8 0).shiftCount = 0 ∧ (mmc1Of 8 0).control.toNat / 4 % 4 = 3 := by decide

theorem witness_ShiftWriteShiftsOneBit : (inProtocol readBlock 0x14 3).answers .mmc1 ∧ 0x8000 ≤ (0x8000 : Addr).toNat ∧
    (0x7F : Byte).toNat < 0x80 ∧ (inProtocol readBlock 0x14 3).shiftCount ≤ 3 ∧ (inProtocol (mmc1Of 8 0) 0x14 3).Inv := by decide

theorem witness_CommitToControlWritesMirroring : (inProtocol readBlock 0x14 4).answers .mmc1 ∧ 0x8000 ≤ (0x9FFF : Addr).toNat ∧
    (0x9FFF : Addr).toNat ≤ 0x9FFF ∧ (0x7F : Byte).toNat < 0x80 ∧ (inProtocol readBlock 0x14 4).shiftCount = 4 := by decide

theorem witness_CommitToChr0 : (inProtocol readBlock 0x14 4).answers .mmc1 ∧ 0xA000 ≤ (0xBFFF : Addr).toNat ∧
    (0xBFFF : Addr).toNat ≤ 0xBFFF ∧ (0x7F : Byte).toNat < 0x80 ∧ (inProtocol readBlock 0x14 4).shiftCount = 4 := by decide

theorem witness_CommitToChr1 : (inProtocol readBlock 0x14 4).answers .mmc1 ∧ 0xC000 ≤ (0xDFFF : Addr).toNat ∧
    (0xDFFF : Addr).toNat ≤ 0xDFFF ∧ (0x7F : Byte).toNat < 0x80 ∧ (inProtocol readBlock 0x14 4).shiftCount = 4 := by decide

theorem witness_CommitToPrgSelect : (inProtocol readBlock 0x14 4).answers .mmc1 ∧ 0xE000 ≤ (0xE000 : Addr).toNat ∧
    (0x7F : Byte).toNat < 0x80 ∧ (inProtocol readBlock 0x14 4).shiftCount = 4 := by decide

theorem witness_RecomputeFollowsTheModeTable : readBlock.answers .mmc1 := by decide

theorem witness_DerivedOffsetsAreAlignedAndBounded : (mmc1Of 8 0x8000).Inv ∧ (mmc1Of 8 0x8000).variant = .mmc1 := by decide

theorem witness_RegisterChangesLeaveFreshOffsets :
    exec (.mWrShift 0x8000 1) (mmc1Of 1 0) = .next { inProtocol (mmc1Of 1 0) 0x10 1 with result := .nothing } ∧
    ({ inProtocol (mmc1Of 1 0) 0x10 1 with result := .nothing } : State).variant = .mmc1 := ⟨rfl, rfl⟩

/-- One operation for each clause of the table: the reset write, a shift, each commit, and another operation. -/
theorem witness_ProtocolTransitionTable :
    exec (.mWrReset 0x8000 0x80) (mmc1Of 1 0) = .next (mmc1Of 1 0) ∧
    exec (.mWrShift 0x8000 1) (mmc1Of 1 0) = .next (inProtocol (mmc1Of 1 0) 0x10 1) ∧
    exec (.mWrCommitCtrl 0x9FFF 1) (inProtocol (mmc1Of 1 0) 0x18 4) = .next { mmc1Of 1 0 with control := 0x1C, cart := { cartOf 1 0 with mirroring := .oneScreenLow } } ∧
    exec (.mWrCommitChr0 0xBFFF 0) (inProtocol (mmc1Of 1 0) 0 4) = .next (mmc1Of 1 0) ∧
    exec (.mWrCommitChr1 0xDFFF 0) (inProtocol (mmc1Of 1 0) 0 4) = .next (mmc1Of 1 0) ∧
    exec (.mWrCommitPrg 0xE000 0) (inProtocol (mmc1Of 1 0) 0 4) = .next (mmc1Of 1 0) ∧
    exec (.mWrIgn 0x5FFF 0) (inProtocol (mmc1Of 1 0) 0 4) = .next (inProtocol (mmc1Of 1 0) 0 4) := ⟨rfl, rfl, rfl, rfl, rfl, rfl, rfl⟩

theorem witness_RegistersAreWrittenOnlyByTheirOperations :
    exec (.mWrShift 0x8000 1) (mmc1Of 1 0) = .next (inProtocol (mmc1Of 1 0) 0x10 1) ∧ isConstruct (.mWrShift 0x8000 1) = false ∧
    (∀ a d, Instr.mWrShift 0x8000 1 ≠ .mWrCommitCtrl a d) ∧ (∀ a d, Instr.mWrShift 0x8000 1 ≠ .mWrReset a d) ∧
    (∀ a d, Instr.mWrShift 0x8000 1 ≠ .mWrCommitPrg a d) ∧ (∀ a d, Instr.mWrShift 0x8000 1 ≠ .mWrCommitChr0 a d) ∧
    (∀ a d, Instr.mWrShift 0x8000 1 ≠ .mWrCommitChr1 a d) := ⟨rfl, rfl, nofun, nofun, nofun, nofun, nofun⟩

/-- An operation that leaves the cell, the commit that sets it, and a construction. -/
theorem witness_MirroringIsNeverRead :
    (setsMirroring (.mWrShift 0x8000 1) = false ∧ exec (.mWrShift 0x8000 1) (mmc1Of 1 0) = .next (inProtocol (mmc1Of 1 0) 0x10 1)) ∧
    (setsMirroring (.mWrCommitCtrl 0x9FFF 1) = true ∧ exec (.mWrCommitCtrl 0x9FFF 1) (inProtocol (mmc1Of 1 0) 0x18 4) =
      .next { mmc1Of 1 0 with control := 0x1C, cart := { cartOf 1 0 with mirroring := .oneScreenLow } }) ∧
    (setsMirroring (.constructMmc1 (cartOf 1 0)) = true ∧ exec (.constructMmc1 (cartOf 1 0)) (mmc1Of 1 0) = .next (mmc1Of 1 0)) :=
  ⟨⟨rfl, rfl⟩, ⟨rfl, rfl⟩, ⟨rfl, rfl⟩⟩

theorem witness_IgnoredDataBitsChangeNothing : 0x8000 ≤ (0x8000 : Addr).toNat ∧ 3 < 4 ∧ 0x80 ≤ (0x80 : Byte).toNat ∧ 0x80 ≤ (0xFF : Byte).toNat ∧
    (0x01 : Byte).toNat < 0x80 ∧ (0x7F : Byte).toNat < 0x80 ∧ (0x01 : Byte).toNat % 2 = (0x7F : Byte).toNat % 2 := by decide

theorem witness_OnlyTheFifthAddressCounts : 0x8000 ≤ (0x8000 : Addr).toNat ∧ 0x8000 ≤ (0xFFFF : Addr).toNat := by decide

/-- The five writes of vector V-A4, the value 0x05, the fifth to `a`, with a read still to come. -/
def fiveWrites (a : Addr) : State :=
  { mmc1Of 8 0x8000 with pending := [.bus (Word26.cpuWrite 0xE000 1), .bus (Word26.cpuWrite 0x8000 0), .bus (Word26.cpuWrite 0xA000 1),
      .bus (Word26.cpuWrite 0xFFFF 0x7E), .bus (Word26.cpuWrite a 0), .bus (Word26.cpuRead 0x8000)] }

theorem witness_FiveShiftWritesLoadARegister (a : Addr) (ha : 0x8000 ≤ a.toNat) :
    (fiveWrites a).answers .mmc1 ∧ (fiveWrites a).shiftCount = 0 ∧
    (∀ b ∈ ([0xE000, 0x8000, 0xA000, 0xFFFF, a] : List Addr), 0x8000 ≤ b.toNat) ∧
    (∀ d ∈ ([1, 0, 1, 0x7E, 0] : List Byte), d.toNat < 0x80) ∧
    (fiveWrites a).pending = [.bus (Word26.cpuWrite 0xE000 1), .bus (Word26.cpuWrite 0x8000 0), .bus (Word26.cpuWrite 0xA000 1),
      .bus (Word26.cpuWrite 0xFFFF 0x7E), .bus (Word26.cpuWrite a 0)] ++ [.bus (Word26.cpuRead 0x8000)] :=
  ⟨⟨rfl, rfl⟩, rfl, by simp [ha], by simp, rfl⟩

/-! The fifth address in each of the four register windows, at the window's end, and the register it loads. -/

theorem witness_FiveShiftWritesLoadARegister_control : 0x8000 ≤ (0x9FFF : Addr).toNat ∧ (0x9FFF : Addr).toNat ≤ 0x9FFF ∧
    look ((fiveWrites 0x9FFF).run 5) (fun t => (t.control, t.cart.mirroring)) = some (0x05, .oneScreenHigh) := by decide

theorem witness_FiveShiftWritesLoadARegister_chr0 : 0x9FFF < (0xBFFF : Addr).toNat ∧ (0xBFFF : Addr).toNat ≤ 0xBFFF ∧
    look ((fiveWrites 0xBFFF).run 5) (·.chr0Select) = some 0x05 := by decide

theorem witness_FiveShiftWritesLoadARegister_chr1 : 0xBFFF < (0xDFFF : Addr).toNat ∧ (0xDFFF : Addr).toNat ≤ 0xDFFF ∧
    look ((fiveWrites 0xDFFF).run 5) (·.chr1Select) = some 0x05 := by decide

theorem witness_FiveShiftWritesLoadARegister_prg : 0xDFFF < (0xE000 : Addr).toNat ∧
    look ((fiveWrites 0xE000).run 5) (·.prgSelect) = some 0x05 := by decide

/-- A shift write of bit `d` to 0xE000. -/
def shiftOf (d : Byte) : Request := .bus (Word26.cpuWrite 0xE000 d)

/-- The same load with a read, a RAM write, MapsChr and a pattern read between the writes. -/
def mixedTraffic : State :=
  { mmc1Of 1 0x2000 with pending := [.bus (Word26.cpuRead 0x8000)] ++ shiftOf 1 :: [.bus (Word26.cpuWrite 0x7FFF 0x5A)] ++ shiftOf 0 ::
      [.mapsChr] ++ shiftOf 1 :: [.bus (Word26.ppuRead 0x1FFF)] ++ shiftOf 0 :: [] ++ [shiftOf 0] }

theorem witness_ShiftWritesLoadARegisterThroughOtherTraffic : mixedTraffic.answers .mmc1 ∧ mixedTraffic.shiftCount = 0 ∧
    (∀ r ∈ [.bus (Word26.cpuRead 0x8000)] ++ [.bus (Word26.cpuWrite 0x7FFF 0x5A)] ++ [.mapsChr] ++ [.bus (Word26.ppuRead 0x1FFF)] ++ [],
      isNeutral r = true) ∧
    isShiftOf (shiftOf 1) 0xE000 1 ∧ isShiftOf (shiftOf 0) 0xE000 0 ∧ mixedTraffic.pending.length = 9 ∧
    mixedTraffic.run 9 = .next { mixedTraffic with
      prgSelect := 5, prgOffsets := ⟨0x14000, 0⟩, prgRam := [(0x1FFF, 0x5A)], result := .nothing, pending := [] } :=
  ⟨by decide, rfl, by decide, ⟨rfl, by decide, by decide⟩, ⟨rfl, by decide, by decide⟩, rfl, rfl⟩

theorem witness_ReadsChangeNothing : exec .mapsChr (mmc1Of 1 0) = .next { mmc1Of 1 0 with result := .flag true } ∧ isRead .mapsChr = true ∧
    ({ mmc1Of 1 0 with result := .flag true } : State).faulted = none := ⟨rfl, rfl, rfl⟩

theorem witness_NoWriteRaisesAFault : isWrite (.mWrCommitPrg 0xE000 0x7F) = true ∧ (Instr.mWrCommitPrg 0xE000 0x7F).wf = true ∧
    (Instr.mWrCommitPrg 0xE000 0x7F).rowSelected (inProtocol readBlock 0 4).variant (inProtocol readBlock 0 4).shiftCount = true ∧
    (inProtocol readBlock 0 4).faulted = none := by decide

theorem witness_AddressRangeFaultIsRaisedByExactlyThese :
    exec (.mRdLow 0x5FFF) (mmc1Of 1 0) = .next { mmc1Of 1 0 with faulted := some (.addressRange .cpu 0x5FFF) } ∧
    exec (.mChrOor 0x2000) (mmc1Of 1 0) = .next { mmc1Of 1 0 with faulted := some (.addressRange .ppu 0x2000) } ∧
    exec (.nRdLow 0x7FFF) (nromOf 1 0) = .next { nromOf 1 0 with faulted := some (.addressRange .cpu 0x7FFF) } ∧
    exec (.nChrOor 0x2000) (nromOf 1 0) = .next { nromOf 1 0 with faulted := some (.addressRange .ppu 0x2000) } := ⟨rfl, rfl, rfl, rfl⟩

/-- V-N4, and V-F1 and V-F4 at the first offset beyond the ROM. -/
theorem witness_RomBoundsFaultIsRaisedExactlyBeyondTheRom :
    (∃ t, exec (.nRdPrg 0xC000) (nromOf 1 0) = .next t ∧ t.faulted = some (.romBounds .prg 0x4000)) ∧
    (∃ t, exec (.mRdPrg 0x8000) { mmc1Of 2 0 with prgOffsets := ⟨0x7C000, 0x4000⟩ } = .next t ∧ t.faulted = some (.romBounds .prg 0x7C000)) ∧
    (∃ t, exec (.mRdPrg 0xC000) { mmc1Of 2 0 with prgOffsets := ⟨0, 0x8000⟩ } = .next t ∧ t.faulted = some (.romBounds .prg 0x8000)) ∧
    (∃ t, exec (.nChr 0x1000) (nromOf 1 0x1000) = .next t ∧ t.faulted = some (.romBounds .chr 0x1000)) ∧
    (∃ t, exec (.mChr 0) { mmc1Of 1 0x2000 with chrOffsets := ⟨0x2000, 0⟩ } = .next t ∧ t.faulted = some (.romBounds .chr 0x2000)) ∧
    (∃ t, exec (.mChr 0x1000) { mmc1Of 1 0x2000 with chrOffsets := ⟨0, 0x2000⟩ } = .next t ∧ t.faulted = some (.romBounds .chr 0x2000)) :=
  ⟨next_of_look _ _ _ (by decide), next_of_look _ _ _ (by decide), next_of_look _ _ _ (by decide), next_of_look _ _ _ (by decide),
    next_of_look _ _ _ (by decide), next_of_look _ _ _ (by decide)⟩

theorem witness_FaultsArePrecise :
    exec (.mRdLow 0x5FFF) (mmc1Of 1 0) = .next { mmc1Of 1 0 with faulted := some (.addressRange .cpu 0x5FFF) } ∧
    ({ mmc1Of 1 0 with faulted := some (.addressRange .cpu 0x5FFF) } : State).faulted = some (.addressRange .cpu 0x5FFF) := ⟨rfl, rfl⟩

/-- A faulted block with nothing to do, and with a bus operation and with MapsChr to come. -/
def halted (p : List Request) : State := { mmc1Of 1 0 with faulted := some (.romBounds .prg 0x4000), pending := p }

theorem witness_FaultedBlockAnswersNothing : (halted []).faulted = some (.romBounds .prg 0x4000) ∧ isConstruct (.mRdPrg 0x8000) = false ∧
    (halted []).pending = [] ∧ (halted [.bus (Word26.cpuRead 0x8000)]).pending = .bus (Word26.cpuRead 0x8000) :: [] ∧
    (Word26.cpuRead 0x8000).kind ≠ 3 ∧ (halted [.mapsChr]).pending = .mapsChr :: [] := ⟨rfl, rfl, rfl, rfl, by decide, rfl⟩

theorem witness_LargeRomsNeverGoOutOfBounds : (mmc1Of 32 0x20000).Inv ∧ (mmc1Of 32 0x20000).variant = .mmc1 ∧
    0x80000 ≤ (mmc1Of 32 0x20000).cart.prgBanks * 0x4000 ∧ 0x20000 ≤ (mmc1Of 32 0x20000).cart.chrSize ∧
    exec .mapsChr (mmc1Of 32 0x20000) = .next { mmc1Of 32 0x20000 with result := .flag true } :=
  ⟨by decide, rfl, by decide, by decide, rfl⟩

theorem witness_AddressArithmeticIsBitFields : 0x8000 ≤ (0xFFFF : Addr).toNat ∧ (0x6000 ≤ (0x7FFF : Addr).toNat ∧ (0x7FFF : Addr).toNat ≤ 0x7FFF) ∧
    (0x1FFF : Addr).toNat ≤ 0x1FFF := by decide

theorem witness_RegisterWindowsAreTheFourRanges : 0x8000 ≤ (0x8000 : Addr).toNat ∧ (0x9FFF : Addr).toNat ≤ 0x9FFF ∧
    (0xBFFF : Addr).toNat ≤ 0xBFFF ∧ (0xDFFF : Addr).toNat ≤ 0xDFFF ∧ ¬ (0xE000 : Addr).toNat ≤ 0xDFFF ∧ (0x7F : Byte).toNat < 0x80 := by decide

theorem witness_EveryWordMatchesExactlyOneRow : 4 ≤ 4 ∧ (Word26.cpuWrite 0xE000 0x7F).kind ≠ 3 := by decide

theorem witness_OnlyKindThreeIsRefused : (0x3000000 : Word26).kind = 3 ∧ (0x0800000 : Word26).kind ≠ 3 := by decide

theorem witness_DecodedInstructionsLieInTheirRow : decodeWord .mmc1 4 0x1E00000 = .ok (.mWrCommitPrg 0xE000 0) := by decide

theorem witness_DecodeInvertsEncode : (Instr.mWrCommitPrg 0xFFFF 0x7F).wf = true ∧ (Instr.mWrCommitPrg 0xFFFF 0x7F).rowSelected .mmc1 4 = true ∧
    encode (.mWrCommitPrg 0xFFFF 0x7F) = some (.bus 0x1FFFF7F) := by decide

theorem witness_EncodeInvertsDecode : decodeWord .mmc1 0 0x0800055 = .ok (.mRdPrg 0x8000) ∧
    decodeWord .mmc1 4 0x1E00055 = .ok (.mWrCommitPrg 0xE000 0x55) := by decide

theorem witness_StepPerformsTheOldestOperation : (fiveWrites 0xE000).pending = .bus (Word26.cpuWrite 0xE000 1) :: (fiveWrites 0xE000).pending.tail ∧
    decodeRequest (fiveWrites 0xE000).variant (fiveWrites 0xE000).shiftCount (.bus (Word26.cpuWrite 0xE000 1)) = .ok (.mWrShift 0xE000 1) := ⟨rfl, rfl⟩

theorem witness_StepWithNothingPendingIsIdle : State.reset.pending = [] ∧ State.reset.faulted = none := by decide

theorem witness_StepIsRefusedOnlyForNoOperation :
    step { mmc1Of 1 0 with pending := [.bus 0x3000000] } = .refused (.notATransaction 0x3000000) ∧
    step { mmc1Of 1 0 with pending := [.construct 1 (cartOf 0 0)] } = .refused .noProgramBank ∧
    step { mmc1Of 1 0 with pending := [.construct 0 { cartOf 1 0 with chrRom := [(0, 0)] }] } = .refused .malformedImage := ⟨rfl, rfl, rfl⟩

/-- The invariant is met by a state in the middle of the protocol, and kept by its next step. -/
theorem witness_EveryStepKeepsTheInvariant : ({ inProtocol (mmc1Of 8 0) 0x14 3 with pending := [shiftOf 0] } : State).Inv ∧
    step { inProtocol (mmc1Of 8 0) 0x14 3 with pending := [shiftOf 0] } = .next (inProtocol (mmc1Of 8 0) 0x0A 4) := ⟨by decide, rfl⟩

end Sys2Proof.Tests
end

section
/-! PROOFS. The state family: what every operation can do when it answers a next state, the invariant of 10_state.md R39, the derived
offsets as plain arithmetic, and the mirroring cell. -/

namespace Sys2Proof.Machine

open Sys2Proof.Claims

/-! ## The derived offsets as the tables of R151 to R155 -/

theorem Reg5.getLsbD_eq_false_iff (v : Reg5) (k : Nat) : v.getLsbD k = false ↔ v.toNat / 2 ^ k % 2 = 0 := by
  rw [BitVec.getLsbD, Nat.testBit_eq_decide_div_mod_eq, decide_eq_false_iff_not]
  omega

theorem Reg5.toNat_and_0x0E (v : Reg5) : (v &&& 0x0E).toNat = 2 * (v.toNat / 2 % 8) := by
  revert v
  decide

theorem Reg5.toNat_and_0x1E (v : Reg5) : (v &&& 0x1E).toNat = 2 * (v.toNat / 2) := by
  revert v
  decide

theorem Reg5.and_0x1F (v : Reg5) : v &&& 0x1F = v := BitVec.and_allOnes

/-- The model's masks compute the program offsets of R153 to R155. -/
theorem prgOffsetsOf_eq_prgTable (control prg : Reg5) (banks : Nat) : prgOffsetsOf control prg banks = prgTable control prg banks := by
  simp only [prgOffsetsOf, prgTable, Reg5.getLsbD_eq_false_iff, Reg5.toNat_and_0x0E, ← Nat.mul_assoc, Nat.reduceMul, Nat.reducePow]

/-- The model's masks compute the pattern offsets of R151 and R152. -/
theorem chrOffsetsOf_eq_chrTable (control chr0 chr1 : Reg5) : chrOffsetsOf control chr0 chr1 = chrTable control chr0 chr1 := by
  simp only [chrOffsetsOf, chrTable, Reg5.getLsbD_eq_false_iff, Reg5.toNat_and_0x1E, Reg5.and_0x1F, ← Nat.mul_assoc, Nat.reduceMul,
    Nat.reducePow]

/-- Fresh offsets are those of the tables. -/
theorem State.offsetsFresh_iff (s : State) : s.offsetsFresh ↔
    s.prgOffsets = prgTable s.control s.prgSelect s.cart.prgBanks ∧ s.chrOffsets = chrTable s.control s.chr0Select s.chr1Select := by
  rw [State.offsetsFresh, prgOffsetsOf_eq_prgTable, chrOffsetsOf_eq_chrTable]

theorem prgTable_w0_aligned_bounded (control prg : Reg5) (banks : Nat) :
    (prgTable control prg banks).w0 % 0x4000 = 0 ∧ (prgTable control prg banks).w0 ≤ 0x7C000 := by
  have := prg.isLt
  unfold prgTable
  split_ifs <;> dsimp only <;> omega

theorem prgTable_w1_aligned_bounded (control prg : Reg5) (banks : Nat) :
    (prgTable control prg banks).w1 % 0x4000 = 0 ∧
      ((prgTable control prg banks).w1 ≤ 0x7C000 ∨ (prgTable control prg banks).w1 = 0x4000 * (banks - 1)) := by
  have := prg.isLt
  unfold prgTable
  split_ifs <;> dsimp only <;> omega

theorem chrTable_aligned_bounded (control chr0 chr1 : Reg5) :
    (chrTable control chr0 chr1).w0 % 0x1000 = 0 ∧ (chrTable control chr0 chr1).w0 ≤ 0x1F000 ∧
      (chrTable control chr0 chr1).w1 % 0x1000 = 0 ∧ (chrTable control chr0 chr1).w1 ≤ 0x1F000 := by
  have := chr0.isLt
  have := chr1.isLt
  unfold chrTable
  split_ifs <;> dsimp only <;> omega

/-! ## What an operation can do -/

/-- What the reset write and the four commits store in the register file, before Recompute() and the clearing of the protocol state
(R133, R136 to R139). -/
inductive StoresRegister (s : State) : Instr → State → Prop
  | reset (a : Addr) (d : Byte) : StoresRegister s (.mWrReset a d) (s.withControl (s.control ||| 0x0C))
  | control (a : Addr) (d : Byte) : StoresRegister s (.mWrCommitCtrl a d)
      ((s.withControl (shiftIn s.shiftRegister d)).withMirroring (.ofControl (shiftIn s.shiftRegister d)))
  | chr0 (a : Addr) (d : Byte) : StoresRegister s (.mWrCommitChr0 a d) (s.withChr0Select (shiftIn s.shiftRegister d))
  | chr1 (a : Addr) (d : Byte) : StoresRegister s (.mWrCommitChr1 a d) (s.withChr1Select (shiftIn s.shiftRegister d))
  | prg (a : Addr) (d : Byte) : StoresRegister s (.mWrCommitPrg a d) (s.withPrgSelect (shiftIn s.shiftRegister d))

/-- The next state of an operation, by the kind of its effect. -/
inductive Effect (s : State) : Instr → State → Prop
  | answer {i : Instr} (r : Result) (hi : isConstruct i = false) : Effect s i (s.withResult r)
  | fault {i : Instr} (r : FaultRecord) (hi : isConstruct i = false) (hr : r.ofSession = true) :
      Effect s i ((s.withResult .nothing).withFaulted (some r))
  | ramWrite (a : Addr) (d : Byte) (ha : a.inRam = true) :
      Effect s (.mWrRam a d) ((s.withPrgRam (Memory.write s.prgRam a.ramIndex d)).withResult .nothing)
  | shift (a : Addr) (d : Byte) (hc : s.shiftCount < 4) :
      Effect s (.mWrShift a d) ((s.withProtocol (shiftIn s.shiftRegister d) (s.shiftCount + 1)).withResult .nothing)
  | register {i : Instr} (u : State) (hu : StoresRegister s i u) : Effect s i ((u.recomputed.withProtocol 0 0).withResult .nothing)
  | recompute : Effect s .recompute (s.recomputed.withResult .nothing)
  | nrom (c : Cartridge) (hc : c.wf = true) : Effect s (.constructNrom c) (s.constructedNrom c)
  | mmc1 (c : Cartridge) (hc : c.wf = true) : Effect s (.constructMmc1 c) (s.constructedMmc1 c)

/-- A translated read answers its byte or raises its fault (R9). -/
theorem Effect.of_romRead {s t : State} {i : Instr} {r : FaultRecord} {b : Byte} {p q : Prop} (hi : isConstruct i = false)
    (hr : r.ofSession = true)
    (h : (p ∧ t = s.withResult (.byte b)) ∨ (q ∧ t = (s.withResult .nothing).withFaulted (some r))) : Effect s i t := by
  obtain ⟨-, rfl⟩ | ⟨-, rfl⟩ := h
  · exact .answer _ hi
  · exact .fault r hi hr

/-- Every operation that answers a next state has one of these effects. -/
theorem exec_effect {i : Instr} {s t : State} (h : exec i s = .next t) : Effect s i t := by
  cases i with
  | nRdLow a => obtain ⟨-, -, -, rfl⟩ := execNRdLow_next a s t h; exact .fault _ rfl rfl
  | nRdPrg a => obtain ⟨-, -, -, h⟩ := execNRdPrg_next a s t h; exact .of_romRead rfl rfl h
  | nWr a d => obtain ⟨-, -, rfl⟩ := execNWr_next a d s t h; exact .answer _ rfl
  | nChr a => obtain ⟨-, -, -, h⟩ := execNChr_next a s t h; exact .of_romRead rfl rfl h
  | nChrOor a => obtain ⟨-, -, -, rfl⟩ := execNChrOor_next a s t h; exact .fault _ rfl rfl
  | mRdLow a => obtain ⟨-, -, -, rfl⟩ := execMRdLow_next a s t h; exact .fault _ rfl rfl
  | mRdRam a => obtain ⟨-, -, -, rfl⟩ := execMRdRam_next a s t h; exact .answer _ rfl
  | mRdPrg a => obtain ⟨-, -, -, h⟩ := execMRdPrg_next a s t h; exact .of_romRead rfl rfl h
  | mWrIgn a d => obtain ⟨-, -, -, rfl⟩ := execMWrIgn_next a d s t h; exact .answer _ rfl
  | mWrRam a d => obtain ⟨-, -, ha, rfl⟩ := execMWrRam_next a d s t h; exact .ramWrite a d ha
  | mWrReset a d => obtain ⟨-, -, -, rfl⟩ := execMWrReset_next a d s t h; exact .register _ (.reset a d)
  | mWrShift a d =>
    obtain ⟨-, -, hrow, rfl⟩ := execMWrShift_next a d s t h
    exact .shift a d (of_decide_eq_true (Bool.and_eq_true_iff.mp hrow).2)
  | mWrCommitCtrl a d => obtain ⟨-, -, -, rfl⟩ := execMWrCommitCtrl_next a d s t h; exact .register _ (.control a d)
  | mWrCommitChr0 a d => obtain ⟨-, -, -, rfl⟩ := execMWrCommitChr0_next a d s t h; exact .register _ (.chr0 a d)
  | mWrCommitChr1 a d => obtain ⟨-, -, -, rfl⟩ := execMWrCommitChr1_next a d s t h; exact .register _ (.chr1 a d)
  | mWrCommitPrg a d => obtain ⟨-, -, -, rfl⟩ := execMWrCommitPrg_next a d s t h; exact .register _ (.prg a d)
  | mChr a => obtain ⟨-, -, -, h⟩ := execMChr_next a s t h; exact .of_romRead rfl rfl h
  | mChrOor a => obtain ⟨-, -, -, rfl⟩ := execMChrOor_next a s t h; exact .fault _ rfl rfl
  | constructNrom c => obtain ⟨hc, rfl⟩ := execConstructNrom_next c s t h; exact .nrom c hc
  | constructMmc1 c => obtain ⟨hc, rfl⟩ := execConstructMmc1_next c s t h; exact .mmc1 c hc
  | constructBad n => exact absurd h (execConstructBad_next n s t)
  | mapsChr => obtain ⟨-, rfl⟩ := execMapsChr_next s t h; exact .answer _ rfl
  | recompute => obtain ⟨-, -, rfl⟩ := execRecompute_next s t h; exact .recompute

/-- Storing a register leaves the cartridge but its mirroring cell, the program RAM and the fault condition alone. -/
theorem StoresRegister.frame {s u : State} {i : Instr} (h : StoresRegister s i u) :
    u.cart = { s.cart with mirroring := u.cart.mirroring } ∧ u.prgRam = s.prgRam ∧ u.faulted = s.faulted := by
  cases h <;> exact ⟨rfl, rfl, rfl⟩

/-! ## The invariant -/

/-- With `k` of the five bits still 0, a shift leaves one fewer: the bit it enters stands at bit 4 (R39 (b)). -/
theorem low_bits_zero_of_shift (n bit sc : Nat) (hsc : sc < 4) (h : n % 2 ^ (5 - sc) = 0) :
    (n / 2 + 16 * bit) % 2 ^ (5 - (sc + 1)) = 0 := by
  interval_cases sc <;> omega

theorem State.protocolSound.shift {s : State} (d : Byte) (hc : s.shiftCount < 4) (h : s.protocolSound) :
    (s.withProtocol (shiftIn s.shiftRegister d) (s.shiftCount + 1)).protocolSound := by
  refine ⟨hc, ?_⟩
  rw [State.withProtocol_shiftRegister, State.withProtocol_shiftCount, shiftIn_toNat]
  exact low_bits_zero_of_shift _ _ _ hc h.2

theorem Addr.ramIndex_lt (a : Addr) (ha : a.inRam = true) : a.ramIndex < prgRamSize := by
  simp only [Addr.inRam, Bool.and_eq_true, decide_eq_true_eq] at ha
  unfold Addr.ramIndex prgRamSize
  omega

/-- The table of R40 meets the invariant, whatever the block was before. -/
theorem State.constructedMmc1_inv (s : State) (c : Cartridge) (hc : c.wf = true) : (s.constructedMmc1 c).Inv := by
  have hram : Memory.wf prgRamSize c.prgRamInit = true := by
    simp only [Cartridge.wf, Cartridge.imagesWf, Bool.and_eq_true] at hc
    exact hc.2.2
  have hprg : (⟨0, (c.prgBanks - 1) * 0x4000⟩ : Offsets) = prgOffsetsOf 0x1C 0 c.prgBanks := by
    rw [Nat.mul_comm]
    rfl
  have hchr : (⟨0, 0⟩ : Offsets) = chrOffsetsOf 0x1C 0 0 := by decide
  exact ⟨fun _ => ⟨⟨Nat.zero_le 4, rfl⟩, hprg, hchr⟩, hc, hram, rfl⟩

/-- Every operation that answers a next state keeps the invariant, the constructions and the faults included. -/
theorem exec_keeps_inv {i : Instr} {s t : State} (h : s.Inv) (he : exec i s = .next t) : t.Inv := by
  obtain ⟨hmmc1, hcart, hram, hfault⟩ := h
  cases exec_effect he with
  | answer r => exact ⟨hmmc1, hcart, hram, hfault⟩
  | fault r _ hr => exact ⟨hmmc1, hcart, hram, hr⟩
  | ramWrite a d ha => exact ⟨hmmc1, hcart, Memory.wf_write _ _ _ _ (Addr.ramIndex_lt a ha) hram, hfault⟩
  | shift a d hc => exact ⟨fun hv => ⟨(hmmc1 hv).1.shift d hc, (hmmc1 hv).2⟩, hcart, hram, hfault⟩
  | register u hu =>
    obtain ⟨hc, hr, hf⟩ := hu.frame
    have hcart' : u.cart.wf = true := by rw [hc]; exact hcart
    have hfault' : u.faultOfSession := by rw [State.faultOfSession, hf]; exact hfault
    exact ⟨fun _ => ⟨⟨Nat.zero_le 4, rfl⟩, rfl, rfl⟩, hcart', hr ▸ hram, hfault'⟩
  | recompute => exact ⟨fun hv => ⟨(hmmc1 hv).1, rfl, rfl⟩, hcart, hram, hfault⟩
  | nrom c hc => exact ⟨nofun, hc, hram, rfl⟩
  | mmc1 c hc => exact s.constructedMmc1_inv c hc

/-- Settles O59: an idle step changes nothing, and any other performs one operation on the rest of the trace. -/
theorem everyStepKeepsTheInvariant : Obligations.EveryStepKeepsTheInvariant := by
  intro s t hs h
  obtain ⟨-, -, rfl⟩ | ⟨_, rest, i, -, -, he⟩ := step_next s t h
  · exact hs
  · have hrest : (s.withPending rest).Inv := hs
    exact exec_keeps_inv hrest he

/-! ## The registers, the offsets and the program RAM -/

/-- Settles O23: the other operations of a session do not touch the list of cells nor the serial number that names the unlisted ones. -/
theorem onlyRamWritesChangeTheProgramRam : Obligations.OnlyRamWritesChangeTheProgramRam := by
  intro i s t h hi hw
  have hkept : t.prgRam = s.prgRam ∧ t.cart.serial = s.cart.serial := by
    cases exec_effect h with
    | answer | fault | shift | recompute => exact ⟨rfl, rfl⟩
    | ramWrite a d => exact absurd rfl (hw a d)
    | register u hu =>
      obtain ⟨hc, hr, -⟩ := hu.frame
      have hs : u.cart.serial = s.cart.serial := by rw [hc]
      exact ⟨hr, hs⟩
    | nrom | mmc1 => cases hi
  obtain ⟨hram, hserial⟩ := hkept
  exact ⟨hram, fun j => by rw [State.prgRamByte, State.prgRamByte, hram, hserial]⟩

/-- Settles O31: under the invariant the offsets are those of the tables, whose entries are aligned and bounded. -/
theorem derivedOffsetsAreAlignedAndBounded : Obligations.DerivedOffsetsAreAlignedAndBounded := by
  intro s hs hv
  obtain ⟨hprg, hchr⟩ := s.offsetsFresh_iff.mp (hs.1 hv).2
  rw [hprg, hchr]
  obtain ⟨hp0, hp0'⟩ := prgTable_w0_aligned_bounded s.control s.prgSelect s.cart.prgBanks
  obtain ⟨hp1, hp1'⟩ := prgTable_w1_aligned_bounded s.control s.prgSelect s.cart.prgBanks
  exact ⟨hp0, hp0', hp1, hp1', chrTable_aligned_bounded _ _ _⟩

/-- Settles O32: an operation leaves registers and offsets alone, or recomputes the offsets, or constructs the block. -/
theorem registerChangesLeaveFreshOffsets : Obligations.RegisterChangesLeaveFreshOffsets := by
  intro i s t h hv
  rw [← State.offsetsFresh_iff]
  cases exec_effect h with
  | answer _ hi | fault _ hi => exact .inl ⟨rfl, rfl, rfl, rfl, rfl, rfl, hi⟩
  | ramWrite | shift => exact .inl ⟨rfl, rfl, rfl, rfl, rfl, rfl, rfl⟩
  | register | recompute => exact .inr ⟨rfl, rfl⟩
  | nrom c => cases hv
  | mmc1 c hc => exact .inr ((s.constructedMmc1_inv c hc).1 rfl).2

/-- The registers and the mirroring cell that storing a register leaves alone. -/
theorem StoresRegister.keeps_others {s u : State} {i : Instr} (h : StoresRegister s i u) :
    ((∀ a d, i ≠ .mWrCommitCtrl a d) → (∀ a d, i ≠ .mWrReset a d) → u.control = s.control) ∧
    ((∀ a d, i ≠ .mWrCommitPrg a d) → u.prgSelect = s.prgSelect) ∧
    ((∀ a d, i ≠ .mWrCommitChr0 a d) → u.chr0Select = s.chr0Select) ∧
    ((∀ a d, i ≠ .mWrCommitChr1 a d) → u.chr1Select = s.chr1Select) ∧
    ((∀ a d, i ≠ .mWrCommitCtrl a d) → u.cart.mirroring = s.cart.mirroring) := by
  cases h with
  | reset a d => exact ⟨fun _ h => absurd rfl (h a d), fun _ => rfl, fun _ => rfl, fun _ => rfl, fun _ => rfl⟩
  | control a d =>
    exact ⟨fun h => absurd rfl (h a d), fun _ => rfl, fun _ => rfl, fun _ => rfl, fun h => absurd rfl (h a d)⟩
  | chr0 a d => exact ⟨fun _ _ => rfl, fun _ => rfl, fun h => absurd rfl (h a d), fun _ => rfl, fun _ => rfl⟩
  | chr1 a d => exact ⟨fun _ _ => rfl, fun _ => rfl, fun _ => rfl, fun h => absurd rfl (h a d), fun _ => rfl⟩
  | prg a d => exact ⟨fun _ _ => rfl, fun h => absurd rfl (h a d), fun _ => rfl, fun _ => rfl, fun _ => rfl⟩

/-- Settles O34: Recompute() and the clearing of the protocol state write no register, so only the store counts. -/
theorem registersAreWrittenOnlyByTheirOperations : Obligations.RegistersAreWrittenOnlyByTheirOperations := by
  intro i s t h hi
  cases exec_effect h with
  | answer | fault | ramWrite | shift | recompute => exact ⟨fun _ _ => rfl, fun _ => rfl, fun _ => rfl, fun _ => rfl, fun _ => rfl⟩
  | register u hu => exact hu.keeps_others
  | nrom | mmc1 => cases hi

/-! ## The mirroring cell -/

/-- `f` on the next state of an outcome; a fault and a refusal stay. -/
def Out.mapNext (f : State → State) : Out → Out
  | .next t => .next (f t)
  | .fault r => .fault r
  | .refused r => .refused r

section
variable (s : State) (m : Mirroring)

/-- The tests of an operation do not read the cell. -/
theorem State.serve_withMirroring (v : Variant) (row : Bool) {k k' : Out} (hk : k' = k.mapNext (·.withMirroring m)) :
    (s.withMirroring m).serve v row k' = Out.mapNext (·.withMirroring m) (s.serve v row k) := by
  subst hk
  unfold State.serve
  rw [State.withMirroring_faulted, State.withMirroring_variant]
  cases s.faulted with
  | some r => rfl
  | none => split_ifs <;> rfl

theorem State.prgRomRead_withMirroring (off : Nat) :
    (s.withMirroring m).prgRomRead off = Out.mapNext (·.withMirroring m) (s.prgRomRead off) := by
  rw [State.prgRomRead, State.prgRomRead, apply_ite (Out.mapNext (·.withMirroring m))]
  rfl

theorem State.chrRomRead_withMirroring (off : Nat) :
    (s.withMirroring m).chrRomRead off = Out.mapNext (·.withMirroring m) (s.chrRomRead off) := by
  rw [State.chrRomRead, State.chrRomRead, apply_ite (Out.mapNext (·.withMirroring m))]
  rfl

/-- An operation that does not set the cell carries it over unread, whatever it ends in. -/
theorem exec_withMirroring_of_keeps (i : Instr) (hi : setsMirroring i = false) :
    exec i (s.withMirroring m) = Out.mapNext (·.withMirroring m) (exec i s) := by
  cases i with
  | nRdPrg | mRdPrg => exact s.serve_withMirroring m _ _ (s.prgRomRead_withMirroring m _)
  | nChr | mChr => exact s.serve_withMirroring m _ _ (s.chrRomRead_withMirroring m _)
  | nRdLow | nWr | nChrOor | mRdLow | mRdRam | mChrOor | mWrIgn | mWrRam | mWrReset | mWrShift | mWrCommitChr0 | mWrCommitChr1
  | mWrCommitPrg | mapsChr | recompute => exact s.serve_withMirroring m _ _ rfl
  | mWrCommitCtrl | constructNrom | constructMmc1 | constructBad => cases hi

/-- An operation that sets the cell ends the same whatever it held. -/
theorem exec_withMirroring_of_sets (i : Instr) (hi : setsMirroring i = true) : exec i (s.withMirroring m) = exec i s := by
  cases i with
  | mWrCommitCtrl | constructNrom | constructMmc1 | constructBad => rfl
  | _ => cases hi

end

/-- Settles O35, by the two kinds of operation: those that set the cell and those that carry it over. -/
theorem mirroringIsNeverRead : Obligations.MirroringIsNeverRead := by
  intro i s t m h
  change exec i (s.withMirroring m) = .next (t.withMirroring _)
  cases hi : setsMirroring i with
  | true => rw [exec_withMirroring_of_sets s m i hi, h]; rfl
  | false => rw [exec_withMirroring_of_keeps s m i hi, h]; rfl

/-! ## The reset state -/

/-- The reset state is an MMC1 construction with the cartridge of log 3 (R190; log 2). -/
theorem State.reset_eq_constructedMmc1 : State.reset = State.reset.constructedMmc1 Cartridge.atReset := rfl

/-- Settles O58: the reset state is a construction with a cartridge that meets the preconditions. -/
theorem resetMeetsTheInvariant : Obligations.ResetMeetsTheInvariant := by
  unfold Obligations.ResetMeetsTheInvariant
  rw [State.reset_eq_constructedMmc1]
  exact State.constructedMmc1_inv _ _ (by decide)

/-- Settles O1: the table's values stand in State.reset, and no program RAM byte is listed, so each is the free value of its index. -/
theorem resetHoldsTheTableOfR40 : Obligations.ResetHoldsTheTableOfR40 :=
  ⟨rfl, rfl, rfl, rfl, rfl, rfl, rfl, rfl, rfl, rfl, rfl, rfl, fun _ _ => rfl⟩

end Sys2Proof.Machine
end

section
/-! PROOFS. The memory family: the program RAM as one read and one write rule, the coherence of 20_memory.md R64, and the step that
performs the oldest operation. -/

namespace Sys2Proof

/-- The program RAM range as numbers (R56). -/
theorem Addr.inRam_iff (a : Addr) : a.inRam = true ↔ 0x6000 ≤ a.toNat ∧ a.toNat ≤ 0x7FFF := by
  rw [Addr.inRam, Bool.and_eq_true, decide_eq_true_eq, decide_eq_true_eq]

/-- Different program RAM addresses have different indices: the range is not mirrored. -/
theorem Addr.ramIndex_eq_iff (a b : Addr) (ha : a.inRam = true) (hb : b.inRam = true) : a.ramIndex = b.ramIndex ↔ a = b := by
  obtain ⟨ha, -⟩ := a.inRam_iff.mp ha
  obtain ⟨hb, -⟩ := b.inRam_iff.mp hb
  exact (tsub_left_inj ha hb).trans BitVec.toNat_inj

end Sys2Proof

namespace Sys2Proof.Machine

/-- The answer field holds no byte of the program RAM. -/
@[simp] theorem State.withResult_prgRamByte (s : State) (r : Result) (i : Nat) : (s.withResult r).prgRamByte i = s.prgRamByte i := rfl

/-- A program RAM write completes on an unfaulted MMC1 block (R132). -/
theorem exec_mWrRam_of_inRam (a : Addr) (d : Byte) (s : State) (hs : s.answers .mmc1) (ha : a.inRam = true) :
    exec (.mWrRam a d) s = .next ((s.withPrgRam (Memory.write s.prgRam a.ramIndex d)).withResult .nothing) :=
  s.serve_row _ _ _ hs.2 hs.1 ha

/-- A program RAM read completes on an unfaulted MMC1 block (R162). -/
theorem exec_mRdRam_of_inRam (a : Addr) (s : State) (hs : s.answers .mmc1) (ha : a.inRam = true) :
    exec (.mRdRam a) s = .next (s.withResult (.byte (s.prgRamByte a.ramIndex))) :=
  s.serve_row _ _ _ hs.2 hs.1 ha

/-- Settles O22: the write leaves a block that still answers, and the read finds the stored byte exactly where the indices, hence the
addresses, agree. -/
theorem programRamReadSeesTheWrite : Obligations.ProgramRamReadSeesTheWrite := by
  intro a b d s hs ha ha' hb hb'
  have haRam : a.inRam = true := a.inRam_iff.mpr ⟨ha, ha'⟩
  have hbRam : b.inRam = true := b.inRam_iff.mpr ⟨hb, hb'⟩
  refine ⟨_, _, exec_mWrRam_of_inRam a d s hs haRam, exec_mRdRam_of_inRam b _ hs hbRam, ?_⟩
  have hindex : b.ramIndex = a.ramIndex ↔ a = b := (b.ramIndex_eq_iff a hbRam haRam).trans eq_comm
  rewrite [State.withResult_result, State.withResult_prgRamByte, State.prgRamByte_write]
  exact congrArg Result.byte (if_congr hindex rfl rfl)

/-- A step whose oldest request decodes performs it on the rest of the trace. -/
theorem step_of_pending (s : State) (r : Request) (rest : List Request) (i : Instr) (hp : s.pending = r :: rest)
    (hi : s.decodeFor r = .ok i) : step s = exec i (s.withPending rest) := by
  simp only [step, hp, hi]

/-- Settles O55: `decodeFor` decodes for the block as it stands, and `withPending` takes the request off. -/
theorem stepPerformsTheOldestOperation : Obligations.StepPerformsTheOldestOperation := step_of_pending

end Sys2Proof.Machine
end

section
/-! PROOFS. The encoding family: the decoder as equations by kind and range, what a decoded instruction owes its word, the rows of the
opcode table, the refusals of a step, and the five writes of the serial protocol. -/

namespace Sys2Proof

/-! ## The words -/

/-- A word is the packing of its own fields (R80). -/
theorem Word26.pack_fields (t : Word26) : Word26.pack t.kind t.addr t.data = t := by
  refine BitVec.eq_of_getLsbD_eq fun j hj => ?_
  simp only [Word26.getLsbD_pack, Word26.kind, Word26.addr, Word26.data, BitVec.getLsbD_extractLsb']
  split_ifs with hd ha
  · simp [hd]
  · simp only [ha, decide_true, Bool.true_and]
    congr 1
    omega
  · have hk : j - 8 - 16 < 2 := by omega
    simp only [hk, decide_true, Bool.true_and]
    congr 1
    omega

/-- The kinds of a word: a CpuRead, a CpuWrite, a PpuRead, and 0b11 (R80). -/
theorem Word26.kind_cases (t : Word26) : t.kind = 0 ∨ t.kind = 1 ∨ t.kind = 2 ∨ t.kind = 3 := by
  generalize t.kind = k
  revert k
  decide

section
variable (a : Addr) (d : Byte)

@[simp] theorem Word26.kind_cpuRead : (Word26.cpuRead a).kind = 0 := Word26.kind_pack 0 a 0
@[simp] theorem Word26.addr_cpuRead : (Word26.cpuRead a).addr = a := Word26.addr_pack 0 a 0
@[simp] theorem Word26.kind_cpuWrite : (Word26.cpuWrite a d).kind = 1 := Word26.kind_pack 1 a d
@[simp] theorem Word26.addr_cpuWrite : (Word26.cpuWrite a d).addr = a := Word26.addr_pack 1 a d
@[simp] theorem Word26.data_cpuWrite : (Word26.cpuWrite a d).data = d := Word26.data_pack 1 a d
@[simp] theorem Word26.kind_ppuRead : (Word26.ppuRead a).kind = 2 := Word26.kind_pack 2 a 0
@[simp] theorem Word26.addr_ppuRead : (Word26.ppuRead a).addr = a := Word26.addr_pack 2 a 0

end

/-- The canonical spelling of a word: the data byte of a read carries nothing and is spelled 0 (R80). -/
def Word26.canonical (t : Word26) : Word26 := if t.kind = 1 then t else Word26.pack t.kind t.addr 0

theorem Word26.canonical_cpuRead {t : Word26} (h : t.kind = 0) : t.canonical = Word26.cpuRead t.addr := by
  rw [Word26.canonical, h]
  rfl

theorem Word26.canonical_cpuWrite {t : Word26} (h : t.kind = 1) : t.canonical = Word26.cpuWrite t.addr t.data := by
  rw [Word26.canonical, if_pos h, Word26.cpuWrite, ← h, t.pack_fields]

theorem Word26.canonical_ppuRead {t : Word26} (h : t.kind = 2) : t.canonical = Word26.ppuRead t.addr := by
  rw [Word26.canonical, h]
  rfl

/-! ## The decoder by the kind of the word -/

section
variable (sc : Nat) {t : Word26}

theorem decodeWord_nrom_cpuRead (h : t.kind = 0) : decodeWord .nrom sc t = .ok (decodeNromRead t.addr) := by
  unfold decodeWord
  rw [h]
  rfl

theorem decodeWord_nrom_cpuWrite (h : t.kind = 1) : decodeWord .nrom sc t = .ok (.nWr t.addr t.data) := by
  unfold decodeWord
  rw [h]
  rfl

theorem decodeWord_nrom_ppuRead (h : t.kind = 2) : decodeWord .nrom sc t = .ok (decodeNromPpu t.addr) := by
  unfold decodeWord
  rw [h]
  rfl

theorem decodeWord_mmc1_cpuRead (h : t.kind = 0) : decodeWord .mmc1 sc t = .ok (decodeMmc1Read t.addr) := by
  unfold decodeWord
  rw [h]
  rfl

theorem decodeWord_mmc1_cpuWrite (h : t.kind = 1) : decodeWord .mmc1 sc t = .ok (decodeMmc1Write sc t.addr t.data) := by
  unfold decodeWord
  rw [h]
  rfl

theorem decodeWord_mmc1_ppuRead (h : t.kind = 2) : decodeWord .mmc1 sc t = .ok (decodeMmc1Ppu t.addr) := by
  unfold decodeWord
  rw [h]
  rfl

theorem decodeWord_of_kind_three (v : Variant) (h : t.kind = 3) : decodeWord v sc t = .error (.notATransaction t) := by
  unfold decodeWord
  rw [h]
  cases v <;> rfl

end

/-- The committing write as the four ranges of R83, each with its last address. -/
theorem decodeCommit_eq (a : Addr) (d : Byte) (ha : 0x8000 ≤ a.toNat) :
    decodeCommit a d =
      if a.toNat ≤ 0x9FFF then .mWrCommitCtrl a d
      else if a.toNat ≤ 0xBFFF then .mWrCommitChr0 a d
      else if a.toNat ≤ 0xDFFF then .mWrCommitChr1 a d
      else .mWrCommitPrg a d := by
  have window (w : BitVec 2) (hw : a.toNat / 0x2000 % 4 = w.toNat) : a.registerWindow = w := (a.registerWindow_eq_iff w).mpr hw
  have hlt := a.isLt
  unfold decodeCommit
  split_ifs
  · rw [window 0 (by simp only [BitVec.reduceToNat]; omega)]; rfl
  · rw [window 1 (by simp only [BitVec.reduceToNat]; omega)]; rfl
  · rw [window 2 (by simp only [BitVec.reduceToNat]; omega)]; rfl
  · rw [window 3 (by simp only [BitVec.reduceToNat]; omega)]; rfl

/-- The tests of R86 in numbers, down to the register of a committing write. -/
theorem decodeMmc1Write_eq (sc : Nat) (a : Addr) (d : Byte) :
    decodeMmc1Write sc a d =
      if a.toNat < 0x6000 then .mWrIgn a d
      else if a.toNat ≤ 0x7FFF then .mWrRam a d
      else if 0x80 ≤ d.toNat then .mWrReset a d
      else if sc < 4 then .mWrShift a d
      else if a.toNat ≤ 0x9FFF then .mWrCommitCtrl a d
      else if a.toNat ≤ 0xBFFF then .mWrCommitChr0 a d
      else if a.toNat ≤ 0xDFFF then .mWrCommitChr1 a d
      else .mWrCommitPrg a d := by
  have hd : d.getLsbD 7 = true ↔ 0x80 ≤ d.toNat := d.isReset_iff
  simp only [decodeMmc1Write, hd]
  by_cases ha : a.toNat ≤ 0x7FFF
  · simp only [ha, if_true]
  · rw [decodeCommit_eq a d (by omega)]

/-! ## Decoder and encoder -/

/-- `i` is what the word `t` spells to a block of variant `v` at shiftCount `sc`: its operands lie in its row, its row holds, and `t` is
its word (R80, R87). -/
structure Instr.SpelledBy (i : Instr) (v : Variant) (sc : Nat) (t : Word26) : Prop where
  wf : i.wf = true
  row : i.rowSelected v sc = true
  word : encodeWord i = some t

theorem decodeNromRead_spelledBy (sc : Nat) (a : Addr) : (decodeNromRead a).SpelledBy .nrom sc (Word26.cpuRead a) := by
  unfold decodeNromRead
  split_ifs with h
  · exact ⟨decide_eq_true h, rfl, rfl⟩
  · exact ⟨decide_eq_true (not_lt.mp h), rfl, rfl⟩

theorem decodeNromPpu_spelledBy (sc : Nat) (a : Addr) : (decodeNromPpu a).SpelledBy .nrom sc (Word26.ppuRead a) := by
  unfold decodeNromPpu
  split_ifs with h
  · exact ⟨decide_eq_true h, rfl, rfl⟩
  · exact ⟨decide_eq_true (not_lt.mp h), rfl, rfl⟩

theorem decodeMmc1Ppu_spelledBy (sc : Nat) (a : Addr) : (decodeMmc1Ppu a).SpelledBy .mmc1 sc (Word26.ppuRead a) := by
  unfold decodeMmc1Ppu
  split_ifs with h
  · exact ⟨decide_eq_true h, rfl, rfl⟩
  · exact ⟨decide_eq_true (not_lt.mp h), rfl, rfl⟩

theorem decodeMmc1Read_spelledBy (sc : Nat) (a : Addr) : (decodeMmc1Read a).SpelledBy .mmc1 sc (Word26.cpuRead a) := by
  unfold decodeMmc1Read
  split_ifs with h h'
  · exact ⟨decide_eq_true h, rfl, rfl⟩
  · exact ⟨a.inRam_iff.mpr ⟨not_lt.mp h, h'⟩, rfl, rfl⟩
  · exact ⟨decide_eq_true (not_le.mp h'), rfl, rfl⟩

theorem decodeMmc1Write_spelledBy (sc : Nat) (a : Addr) (d : Byte) :
    (decodeMmc1Write sc a d).SpelledBy .mmc1 sc (Word26.cpuWrite a d) := by
  rw [decodeMmc1Write_eq]
  split_ifs <;> refine ⟨?_, ?_, rfl⟩ <;>
    simp only [Instr.wf, Instr.rowSelected, Bool.and_eq_true, decide_eq_true_eq, true_and] <;> omega

/-- What the decoder gives is what the word spells, read without the data byte of a read. -/
theorem decodeWord_spelledBy {v : Variant} {sc : Nat} {t : Word26} {i : Instr} (h : decodeWord v sc t = .ok i) :
    i.SpelledBy v sc t.canonical := by
  obtain hk | hk | hk | hk := t.kind_cases
  · rw [t.canonical_cpuRead hk]
    cases v with
    | nrom => cases (decodeWord_nrom_cpuRead sc hk).symm.trans h; exact decodeNromRead_spelledBy sc _
    | mmc1 => cases (decodeWord_mmc1_cpuRead sc hk).symm.trans h; exact decodeMmc1Read_spelledBy sc _
  · rw [t.canonical_cpuWrite hk]
    cases v with
    | nrom => cases (decodeWord_nrom_cpuWrite sc hk).symm.trans h; exact ⟨rfl, rfl, rfl⟩
    | mmc1 => cases (decodeWord_mmc1_cpuWrite sc hk).symm.trans h; exact decodeMmc1Write_spelledBy sc _ _
  · rw [t.canonical_ppuRead hk]
    cases v with
    | nrom => cases (decodeWord_nrom_ppuRead sc hk).symm.trans h; exact decodeNromPpu_spelledBy sc _
    | mmc1 => cases (decodeWord_mmc1_ppuRead sc hk).symm.trans h; exact decodeMmc1Ppu_spelledBy sc _
  · cases (decodeWord_of_kind_three sc v hk).symm.trans h

/-- The word of a well-formed instruction whose row holds is read back as the instruction. -/
theorem decodeWord_of_spelledBy {i : Instr} {v : Variant} {sc : Nat} {t : Word26} (h : i.SpelledBy v sc t) :
    decodeWord v sc t = .ok i := by
  obtain ⟨hwf, hrow, hword⟩ := h
  cases i with
  | nRdLow a | nRdPrg a =>
    cases hword
    cases of_decide_eq_true hrow
    simp only [Instr.wf, decide_eq_true_eq] at hwf
    rw [decodeWord_nrom_cpuRead sc (Word26.kind_cpuRead a), Word26.addr_cpuRead]
    simp (disch := omega) only [decodeNromRead, if_pos, if_neg]
  | nWr a d =>
    cases hword
    cases of_decide_eq_true hrow
    rw [decodeWord_nrom_cpuWrite sc (Word26.kind_cpuWrite a d), Word26.addr_cpuWrite, Word26.data_cpuWrite]
  | nChr a | nChrOor a =>
    cases hword
    cases of_decide_eq_true hrow
    simp only [Instr.wf, decide_eq_true_eq] at hwf
    rw [decodeWord_nrom_ppuRead sc (Word26.kind_ppuRead a), Word26.addr_ppuRead]
    simp (disch := omega) only [decodeNromPpu, if_pos, if_neg]
  | mRdLow a | mRdRam a | mRdPrg a =>
    cases hword
    cases of_decide_eq_true hrow
    simp only [Instr.wf, Bool.and_eq_true, decide_eq_true_eq] at hwf
    rw [decodeWord_mmc1_cpuRead sc (Word26.kind_cpuRead a), Word26.addr_cpuRead]
    simp (disch := omega) only [decodeMmc1Read, if_pos, if_neg]
  | mWrIgn a d | mWrRam a d | mWrReset a d =>
    cases hword
    cases of_decide_eq_true hrow
    simp only [Instr.wf, Bool.and_eq_true, decide_eq_true_eq] at hwf
    rw [decodeWord_mmc1_cpuWrite sc (Word26.kind_cpuWrite a d), Word26.addr_cpuWrite, Word26.data_cpuWrite, decodeMmc1Write_eq]
    simp (disch := omega) only [if_pos, if_neg]
  | mWrShift a d | mWrCommitCtrl a d | mWrCommitChr0 a d | mWrCommitChr1 a d | mWrCommitPrg a d =>
    cases hword
    simp only [Instr.wf, Instr.rowSelected, Bool.and_eq_true, decide_eq_true_eq] at hwf hrow
    obtain ⟨rfl, hsc⟩ := hrow
    rw [decodeWord_mmc1_cpuWrite sc (Word26.kind_cpuWrite a d), Word26.addr_cpuWrite, Word26.data_cpuWrite, decodeMmc1Write_eq]
    simp (disch := omega) only [if_pos, if_neg]
  | mChr a | mChrOor a =>
    cases hword
    cases of_decide_eq_true hrow
    simp only [Instr.wf, decide_eq_true_eq] at hwf
    rw [decodeWord_mmc1_ppuRead sc (Word26.kind_ppuRead a), Word26.addr_ppuRead]
    simp (disch := omega) only [decodeMmc1Ppu, if_pos, if_neg]
  | constructNrom | constructMmc1 | constructBad | mapsChr | recompute => cases hword

/-- The decoder accepts every word of the other kinds (R87). -/
theorem exists_decodeWord_of_kind_ne_three (v : Variant) (sc : Nat) (t : Word26) (h : t.kind ≠ 3) :
    ∃ i, decodeWord v sc t = .ok i := by
  obtain hk | hk | hk | hk := t.kind_cases
  · cases v with
    | nrom => exact ⟨_, decodeWord_nrom_cpuRead sc hk⟩
    | mmc1 => exact ⟨_, decodeWord_mmc1_cpuRead sc hk⟩
  · cases v with
    | nrom => exact ⟨_, decodeWord_nrom_cpuWrite sc hk⟩
    | mmc1 => exact ⟨_, decodeWord_mmc1_cpuWrite sc hk⟩
  · cases v with
    | nrom => exact ⟨_, decodeWord_nrom_ppuRead sc hk⟩
    | mmc1 => exact ⟨_, decodeWord_mmc1_ppuRead sc hk⟩
  · exact absurd hk h

/-- The decoder refuses exactly the words of kind 0b11, each by its own name (R80, R89). -/
theorem decodeWord_eq_error_iff (v : Variant) (sc : Nat) (t : Word26) (e : Reject) :
    decodeWord v sc t = .error e ↔ t.kind = 3 ∧ e = .notATransaction t := by
  by_cases hk : t.kind = 3
  · rw [decodeWord_of_kind_three sc v hk, Except.error.injEq, and_iff_right hk, eq_comm]
  · obtain ⟨i, hi⟩ := exists_decodeWord_of_kind_ne_three v sc t hk
    rw [hi]
    exact iff_of_false nofun fun h => hk h.1

/-- The request of an instruction with a word is the bus transaction of that word. -/
theorem encode_of_encodeWord {i : Instr} {t : Word26} (h : encodeWord i = some t) : encode i = some (.bus t) := by
  cases i <;> cases h <;> rfl

theorem mWrReset_spelledBy (sc : Nat) (a : Addr) (d : Byte) (ha : 0x8000 ≤ a.toNat) (hd : 0x80 ≤ d.toNat) :
    (Instr.mWrReset a d).SpelledBy .mmc1 sc (Word26.cpuWrite a d) :=
  ⟨by simp [Instr.wf, ha, hd], rfl, rfl⟩

theorem mWrShift_spelledBy (sc : Nat) (a : Addr) (d : Byte) (ha : 0x8000 ≤ a.toNat) (hd : d.toNat < 0x80) (hsc : sc < 4) :
    (Instr.mWrShift a d).SpelledBy .mmc1 sc (Word26.cpuWrite a d) :=
  ⟨by simp [Instr.wf, ha, hd], by simp [Instr.rowSelected, hsc], rfl⟩

/-- From shiftCount 4 a write to 0x8000..0xFFFF with D[7] = 0 commits (R86, R130). -/
theorem decodeMmc1Write_commit (sc : Nat) (a : Addr) (d : Byte) (ha : 0x8000 ≤ a.toNat) (hd : d.toNat < 0x80) (hsc : 4 ≤ sc) :
    decodeMmc1Write sc a d = decodeCommit a d := by
  rw [decodeMmc1Write_eq, decodeCommit_eq a d ha]
  simp (disch := omega) only [if_neg]

theorem decodeWord_commit (sc : Nat) (a : Addr) (d : Byte) (ha : 0x8000 ≤ a.toNat) (hd : d.toNat < 0x80) (hsc : 4 ≤ sc) :
    decodeWord .mmc1 sc (Word26.cpuWrite a d) = .ok (decodeCommit a d) := by
  rw [decodeWord_mmc1_cpuWrite sc (Word26.kind_cpuWrite a d), Word26.addr_cpuWrite, Word26.data_cpuWrite,
    decodeMmc1Write_commit sc a d ha hd hsc]

/-! ## Decoding and encoding undo each other -/

/-- Settles O52: a bus operation is read back from its word, and the identifier of a Construct names its row. -/
theorem decodeInvertsEncode : Obligations.DecodeInvertsEncode := by
  intro i r v sc hwf hrow hr
  cases hw : encodeWord i with
  | some t =>
    cases (encode_of_encodeWord hw).symm.trans hr
    exact decodeWord_of_spelledBy ⟨hwf, hrow, hw⟩
  | none =>
    cases i with
    | constructNrom | constructMmc1 | mapsChr => cases hr; rfl
    | constructBad n =>
      cases hr
      obtain ⟨k, rfl⟩ := Nat.exists_eq_add_of_le' (of_decide_eq_true hwf)
      rfl
    | recompute => cases hr
    | _ => cases hw

/-- Settles O53: the canonical spelling of a word is what the statement writes out. -/
theorem encodeInvertsDecode : Obligations.EncodeInvertsDecode :=
  fun _ _ _ _ h => (decodeWord_spelledBy h).word

/-- Settles O51: two of the three parts of being spelled by the word. -/
theorem decodedInstructionsLieInTheirRow : Obligations.DecodedInstructionsLieInTheirRow :=
  fun _ _ _ _ h => ⟨(decodeWord_spelledBy h).wf, (decodeWord_spelledBy h).row⟩

/-- Settles O50: the error is exactly kind 0b11, and each other kind has its equation. -/
theorem onlyKindThreeIsRefused : Obligations.OnlyKindThreeIsRefused :=
  fun v sc t => ⟨(decodeWord_eq_error_iff v sc t _).trans (and_iff_left rfl), exists_decodeWord_of_kind_ne_three v sc t⟩

/-- Settles O48: at shiftCount 4 the write commits, to the register of its range. -/
theorem registerWindowsAreTheFourRanges : Obligations.RegisterWindowsAreTheFourRanges := by
  intro a d ha hd
  rw [decodeWord_commit 4 a d ha hd (le_refl 4), decodeCommit_eq a d ha]

/-- Settles O47: masks, quotients and bit fields are all quotients and remainders of the address. -/
theorem addressArithmeticIsBitFields : Obligations.AddressArithmeticIsBitFields := by
  intro a
  have hlt := a.isLt
  simp only [BitVec.extractLsb'_toNat, Nat.shiftRight_eq_div_pow, Addr.programOffset_eq, Addr.patternOffset_eq]
  unfold Addr.programWindow Addr.ramIndex Addr.patternWindow
  refine ⟨fun h => ⟨?_, ?_⟩, fun h h' => ?_, fun h => ⟨?_, ?_⟩⟩ <;> omega

/-- Settles O54: eight closed words. -/
theorem vectorWordsDecode : Obligations.VectorWordsDecode := by
  unfold Obligations.VectorWordsDecode
  refine ⟨?_, ?_, ?_, ?_, ?_, ?_, ?_, ?_⟩ <;> decide

/-! ## The rows of the opcode table -/

/-- A mask test, field by field. -/
theorem Word26.and_eq_iff (t m p : Word26) :
    t &&& m = p ↔ t.kind &&& m.kind = p.kind ∧ t.addr &&& m.addr = p.addr ∧ t.data &&& m.data = p.data := by
  have hkind : (t &&& m).kind = t.kind &&& m.kind := BitVec.extractLsb'_and
  have haddr : (t &&& m).addr = t.addr &&& m.addr := BitVec.extractLsb'_and
  have hdata : (t &&& m).data = t.data &&& m.data := BitVec.extractLsb'_and
  rw [← hkind, ← haddr, ← hdata]
  constructor
  · rintro rfl
    exact ⟨rfl, rfl, rfl⟩
  · rintro ⟨hk, ha, hd⟩
    rw [← (t &&& m).pack_fields, hk, ha, hd, p.pack_fields]

/-- Two rows that share no word: of different variants, of disjoint shiftCounts, or with patterns that disagree on a bit both masks
examine (R87). -/
abbrev Row.apart (r r' : Row) : Prop :=
  r.variant ≠ r'.variant ∨ r.maxCount < r'.minCount ∨ r'.maxCount < r.minCount ∨ r.pattern &&& r'.mask ≠ r'.pattern &&& r.mask

/-- The rows of the table are pairwise apart, a finite check of masks and patterns. -/
theorem busRows_apart : busRows.Pairwise Row.apart := by decide

theorem Row.holds_iff (r : Row) (v : Variant) (sc : Nat) (t : Word26) :
    r.holds v sc t = true ↔ r.variant = v ∧ r.minCount ≤ sc ∧ sc ≤ r.maxCount ∧ t &&& r.mask = r.pattern := by
  simp only [Row.holds, Bool.and_eq_true, decide_eq_true_eq, and_assoc]

theorem Row.apart.not_both {r r' : Row} (h : r.apart r') (v : Variant) (sc : Nat) (t : Word26) :
    ¬ (r.holds v sc t = true ∧ r'.holds v sc t = true) := by
  rintro ⟨hr, hr'⟩
  obtain ⟨hv, hmin, hmax, hp⟩ := (r.holds_iff v sc t).mp hr
  obtain ⟨hv', hmin', hmax', hp'⟩ := (r'.holds_iff v sc t).mp hr'
  obtain h | h | h | h := h
  · exact h (hv.trans hv'.symm)
  · omega
  · omega
  · refine h ?_
    rw [← hp, ← hp', BitVec.and_assoc, BitVec.and_assoc, BitVec.and_comm r.mask]

/-- Of elements no two of which pass a test, one that passes is all the test leaves. -/
theorem filter_eq_singleton {α : Type*} {R : α → α → Prop} {p : α → Bool} {l : List α} {a : α} (hl : l.Pairwise R)
    (hR : ∀ x y, R x y → ¬ (p x = true ∧ p y = true)) (ha : a ∈ l) (hp : p a = true) : l.filter p = [a] := by
  have hmem : a ∈ l.filter p := List.mem_filter.mpr ⟨ha, hp⟩
  have hpair : (l.filter p).Pairwise R := hl.filter p
  have hall : ∀ x ∈ l.filter p, p x = true := fun x hx => (List.mem_filter.mp hx).2
  match hf : l.filter p with
  | [] => simp [hf] at hmem
  | [b] => simpa [hf, eq_comm] using hmem
  | b :: c :: m =>
    simp only [hf, List.pairwise_cons, List.forall_mem_cons] at hpair hall
    exact absurd ⟨hall.1, hall.2.1⟩ (hR b c hpair.1.1)

/-- The addresses of a row whose mask is the bits from `k` up. -/
theorem Addr.and_high_eq_iff (a p m : Addr) (k : Nat) (hm : m = BitVec.allOnes 16 <<< k) :
    a &&& m = p ↔ a.toNat / 2 ^ k * 2 ^ k = p.toNat := by
  have hlt : a.toNat / 2 ^ k * 2 ^ k < 2 ^ 16 := lt_of_le_of_lt (Nat.div_mul_le_self _ _) a.isLt
  rw [hm, ← BitVec.shiftLeft_ushiftRight, ← BitVec.toNat_inj, BitVec.toNat_shiftLeft, BitVec.toNat_ushiftRight, Nat.shiftLeft_eq,
    Nat.shiftRight_eq_div_pow, Nat.mod_eq_of_lt hlt]

theorem Byte.and_0x80_eq_0x80_iff (d : Byte) : d &&& 0x80#8 = 0x80#8 ↔ 0x80 ≤ d.toNat := by
  revert d
  decide

theorem Byte.and_0x80_eq_zero_iff (d : Byte) : d &&& 0x80#8 = 0#8 ↔ d.toNat < 0x80 := by
  revert d
  decide

theorem Word26.pack_and_eq_iff (k : BitVec 2) (a : Addr) (d : Byte) (m p : Word26) :
    Word26.pack k a d &&& m = p ↔ k &&& m.kind = p.kind ∧ a &&& m.addr = p.addr ∧ d &&& m.data = p.data := by
  rw [Word26.and_eq_iff, Word26.kind_pack, Word26.addr_pack, Word26.data_pack]

/-- The decoded instruction's row holds of its word. The table is spelled out as a disjunction over its rows, the mask tests as ranges of
the address and of the data byte; then the decoder's tests choose the disjunct. -/
theorem exists_row_holds_of_decodeWord {v : Variant} {sc : Nat} {k : BitVec 2} {a : Addr} {d : Byte} {i : Instr} (hsc : sc ≤ 4)
    (h : decodeWord v sc (Word26.pack k a d) = .ok i) :
    ∃ r ∈ busRows, r.mnemonic = i.mnemonic ∧ r.holds v sc (Word26.pack k a d) = true := by
  have mask8 (p : Addr) := a.and_high_eq_iff p 0x8000#16 15 rfl
  have maskC (p : Addr) := a.and_high_eq_iff p 0xC000#16 14 rfl
  have maskE (p : Addr) := a.and_high_eq_iff p 0xE000#16 13 rfl
  have hlt := a.isLt
  simp only [busRows, nromRows, mmc1ReadRows, mmc1WriteRows, List.cons_append, List.nil_append, List.mem_cons, List.not_mem_nil, or_false,
    exists_eq_or_imp, exists_eq_left, Row.holds_iff, Word26.pack_and_eq_iff, Word26.kind, Word26.addr, Word26.data,
    BitVec.reduceExtractLsb', BitVec.and_zero, mask8, maskC, maskE, Byte.and_0x80_eq_0x80_iff, Byte.and_0x80_eq_zero_iff]
  have hk : (Word26.pack k a d).kind = k := Word26.kind_pack k a d
  obtain hk' | hk' | hk' | hk' := (Word26.pack k a d).kind_cases <;> cases hk.symm.trans hk'
  · cases v with
    | nrom =>
      cases (decodeWord_nrom_cpuRead sc hk).symm.trans h
      rw [Word26.addr_pack, decodeNromRead]
      split_ifs <;> simp [Instr.mnemonic] <;> omega
    | mmc1 =>
      cases (decodeWord_mmc1_cpuRead sc hk).symm.trans h
      rw [Word26.addr_pack, decodeMmc1Read]
      split_ifs <;> simp [Instr.mnemonic] <;> omega
  · cases v with
    | nrom =>
      cases (decodeWord_nrom_cpuWrite sc hk).symm.trans h
      simp [Instr.mnemonic, hsc]
    | mmc1 =>
      cases (decodeWord_mmc1_cpuWrite sc hk).symm.trans h
      rw [Word26.addr_pack, Word26.data_pack, decodeMmc1Write_eq]
      split_ifs <;> simp [Instr.mnemonic] <;> omega
  · cases v with
    | nrom =>
      cases (decodeWord_nrom_ppuRead sc hk).symm.trans h
      rw [Word26.addr_pack, decodeNromPpu]
      split_ifs <;> simp [Instr.mnemonic] <;> omega
    | mmc1 =>
      cases (decodeWord_mmc1_ppuRead sc hk).symm.trans h
      rw [Word26.addr_pack, decodeMmc1Ppu]
      split_ifs <;> simp [Instr.mnemonic] <;> omega
  · cases (decodeWord_of_kind_three sc v hk).symm.trans h

/-- Settles O49: a row of the decoded instruction holds, and the rows are apart, so no other does. -/
theorem everyWordMatchesExactlyOneRow : Obligations.EveryWordMatchesExactlyOneRow := by
  intro v sc t hsc hk
  obtain ⟨i, hi⟩ := exists_decodeWord_of_kind_ne_three v sc t hk
  rw [← t.pack_fields] at hi ⊢
  obtain ⟨r, hr, hm, hh⟩ := exists_row_holds_of_decodeWord hsc hi
  refine ⟨i, hi, ?_⟩
  rw [filter_eq_singleton busRows_apart (fun x y hxy => hxy.not_both v sc _) hr hh, List.map_singleton, hm]

/-! ## The shifted value -/

/-- The commits' mirroring mode in numbers (R37, R136). -/
theorem Mirroring.ofControl_eq_mirroringOf (v : Reg5) : Mirroring.ofControl v = Claims.mirroringOf v := by
  revert v
  decide

/-- A shift sees nothing of the data byte but D[0] (R85). -/
theorem shiftIn_congr (sr : Reg5) {d e : Byte} (h : d.toNat % 2 = e.toNat % 2) : shiftIn sr d = shiftIn sr e :=
  BitVec.eq_of_toNat_eq (by rw [shiftIn_toNat, shiftIn_toNat, h])

/-- Five shifts push every old bit out and leave the five data bits, the first lowest (R84). -/
theorem shiftIn_five (sr : Reg5) (d0 d1 d2 d3 d4 : Byte) :
    shiftIn (shiftIn (shiftIn (shiftIn (shiftIn sr d0) d1) d2) d3) d4 = Claims.assembled d0 d1 d2 d3 d4 := by
  have hlt := sr.isLt
  refine BitVec.eq_of_toNat_eq ?_
  simp only [shiftIn_toNat, Claims.assembled, BitVec.toNat_ofNat]
  omega

theorem Addr.not_inPattern_iff (a : Addr) : (!a.inPattern) = true ↔ 0x2000 ≤ a.toNat := by
  rw [Addr.inPattern, Bool.not_eq_true', decide_eq_false_iff_not, not_lt]

end Sys2Proof

namespace Sys2Proof.Machine

open Sys2Proof.Claims

/-! ## The rows of the protocol writes -/

/-- The row of a committing write in numbers (R86, R135). -/
theorem State.commitRow_iff (s : State) (w : BitVec 2) (a : Addr) (d : Byte) :
    s.commitRow w a d = true ↔ 0x8000 ≤ a.toNat ∧ a.toNat / 0x2000 % 4 = w.toNat ∧ d.toNat < 0x80 ∧ 4 ≤ s.shiftCount := by
  simp only [State.commitRow, Addr.inProgram, Addr.registerWindow_eq_iff, Bool.and_eq_true, decide_eq_true_eq, Bool.not_eq_true',
    Byte.isReset_false_iff, and_assoc]

/-- The row of a shift write in numbers (R86, R134). -/
theorem State.shiftRow_iff (s : State) (a : Addr) (d : Byte) :
    (a.inProgram && !d.isReset && decide (s.shiftCount < 4)) = true ↔ 0x8000 ≤ a.toNat ∧ d.toNat < 0x80 ∧ s.shiftCount < 4 := by
  simp only [Addr.inProgram, Bool.and_eq_true, decide_eq_true_eq, Bool.not_eq_true', Byte.isReset_false_iff, and_assoc]

/-- The row of a reset write in numbers (R85, R133). -/
theorem resetRow_iff (a : Addr) (d : Byte) : (a.inProgram && d.isReset) = true ↔ 0x8000 ≤ a.toNat ∧ 0x80 ≤ d.toNat := by
  simp only [Addr.inProgram, Bool.and_eq_true, decide_eq_true_eq, Byte.isReset_iff]

/-! ## Refusals -/

/-- A served operation whose row holds is refused only by its effect. -/
theorem State.serve_ne_refused {s : State} {v : Variant} {row : Bool} {k : Out} {x : Refusal} (hv : s.variant = v) (hr : row = true)
    (hk : k ≠ .refused x) : s.serve v row k ≠ .refused x := by
  cases hf : s.faulted with
  | some r => rw [s.serve_faulted v row k r hf]; nofun
  | none => rwa [s.serve_row v row k hf hv hr]

theorem State.prgRomRead_ne_refused (s : State) (off : Nat) (x : Refusal) : s.prgRomRead off ≠ .refused x := by
  unfold State.prgRomRead
  split_ifs <;> nofun

theorem State.chrRomRead_ne_refused (s : State) (off : Nat) (x : Refusal) : s.chrRomRead off ≠ .refused x := by
  unfold State.chrRomRead
  split_ifs <;> nofun

/-- The two refusals of a construction (R193 (b); log 14). -/
theorem constructWith_refused {c : Cartridge} {b : State} {x : Refusal} (h : constructWith c b = .refused x) :
    (c.prgBanks = 0 ∧ x = .noProgramBank) ∨ (1 ≤ c.prgBanks ∧ c.imagesWf = false ∧ x = .malformedImage) := by
  unfold constructWith at h
  split_ifs at h with hb hi
  · cases h
    exact .inl ⟨hb, rfl⟩
  · cases h
    exact .inr ⟨Nat.one_le_iff_ne_zero.mpr hb, Bool.eq_false_of_not_eq_true hi, rfl⟩

/-- A well-formed instruction whose row holds is never refused (log 11). -/
theorem exec_ne_refused {i : Instr} {s : State} (hwf : i.wf = true) (hrow : i.rowSelected s.variant s.shiftCount = true) (x : Refusal) :
    exec i s ≠ .refused x := by
  cases i with
  | nRdLow | nWr | mRdLow | mRdRam | mWrIgn | mWrRam | recompute => exact State.serve_ne_refused (of_decide_eq_true hrow) hwf nofun
  | nChrOor a | mChrOor a =>
    exact State.serve_ne_refused (of_decide_eq_true hrow) (a.not_inPattern_iff.mpr (of_decide_eq_true hwf)) nofun
  | nRdPrg | mRdPrg => exact State.serve_ne_refused (of_decide_eq_true hrow) hwf (s.prgRomRead_ne_refused _ x)
  | nChr | mChr => exact State.serve_ne_refused (of_decide_eq_true hrow) hwf (s.chrRomRead_ne_refused _ x)
  | mWrReset a d =>
    simp only [Instr.wf, Bool.and_eq_true, decide_eq_true_eq] at hwf
    exact State.serve_ne_refused (of_decide_eq_true hrow) ((resetRow_iff a d).mpr hwf) nofun
  | mWrShift a d =>
    simp only [Instr.wf, Instr.rowSelected, Bool.and_eq_true, decide_eq_true_eq] at hwf hrow
    exact State.serve_ne_refused hrow.1 ((s.shiftRow_iff a d).mpr ⟨hwf.1, hwf.2, hrow.2⟩) nofun
  | mWrCommitCtrl a d | mWrCommitChr0 a d | mWrCommitChr1 a d | mWrCommitPrg a d =>
    simp only [Instr.wf, Instr.rowSelected, Bool.and_eq_true, decide_eq_true_eq] at hwf hrow
    have hlt := a.isLt
    refine State.serve_ne_refused hrow.1 ((s.commitRow_iff _ a d).mpr ⟨by omega, ?_, by omega, hrow.2⟩) nofun
    simp only [BitVec.reduceToNat]
    omega
  | constructNrom c | constructMmc1 c =>
    intro h
    cases (constructWith_wf c _ hwf).symm.trans h
  | constructBad n =>
    intro h
    cases (if_pos (of_decide_eq_true hwf)).symm.trans h
  | mapsChr => exact State.serve_ne_refused rfl rfl nofun

/-- What a refused step comes from: its oldest request spells no operation, or the operation is refused. -/
theorem step_refused {s : State} {x : Refusal} (h : step s = .refused x) :
    ∃ r rest, s.pending = r :: rest ∧
      ((∃ e, s.decodeFor r = .error e ∧ x = Reject.toRefusal e) ∨
        ∃ i, s.decodeFor r = .ok i ∧ exec i (s.withPending rest) = .refused x) := by
  unfold step at h
  split at h
  · unfold State.idle at h
    split at h <;> cases h
  · rename_i r rest hp
    refine ⟨r, rest, hp, ?_⟩
    split at h
    · rename_i e he
      cases h
      exact .inl ⟨e, he, rfl⟩
    · rename_i i hi
      exact .inr ⟨i, hi, h⟩

/-- Settles O57: what the decoder gives is never refused, so a refusal is the decoder's own or a construction's. -/
theorem stepIsRefusedOnlyForNoOperation : Obligations.StepIsRefusedOnlyForNoOperation := by
  intro s x h
  obtain ⟨r, rest, hp, hr⟩ := step_refused h
  cases r with
  | bus w =>
    obtain ⟨e, he, rfl⟩ | ⟨i, hi, hx⟩ := hr
    · obtain ⟨hk, rfl⟩ := (decodeWord_eq_error_iff _ _ w e).mp he
      exact .inl ⟨w, rest, hp, hk, rfl⟩
    · obtain ⟨hwf, hrow, -⟩ := decodeWord_spelledBy hi
      exact absurd hx (exec_ne_refused (s := s.withPending rest) hwf hrow x)
  | construct n cart =>
    obtain ⟨e, he, -⟩ | ⟨i, hi, hx⟩ := hr
    · cases he
    · cases hi
      match n with
      | 0 => exact .inr ⟨0, cart, rest, hp, Nat.zero_le 1, constructWith_refused hx⟩
      | 1 => exact .inr ⟨1, cart, rest, hp, le_refl 1, constructWith_refused hx⟩
      | n + 2 =>
        have hwf : (Instr.constructBad (n + 2)).wf = true := decide_eq_true (Nat.le_add_left 2 n)
        exact absurd hx (exec_ne_refused hwf rfl x)
  | mapsChr =>
    obtain ⟨e, he, -⟩ | ⟨i, hi, hx⟩ := hr
    · cases he
    · cases hi
      exact absurd hx (exec_ne_refused rfl rfl x)

/-! ## The serial protocol -/

/-- The end of a commit is that of the statements: the offsets of the tables of R151 to R155, the protocol cleared (R135). -/
theorem State.committed_eq (s : State) : s.committed = .next (afterCommit s) := by
  unfold afterCommit
  rw [← prgOffsetsOf_eq_prgTable, ← chrOffsetsOf_eq_chrTable]
  rfl

/-- The committing write stores its value in the register of its range (R83, R135 to R139). -/
theorem exec_decodeCommit {s : State} {a : Addr} {d : Byte} (hs : s.answers .mmc1) (ha : 0x8000 ≤ a.toNat) (hd : d.toNat < 0x80)
    (hc : 4 ≤ s.shiftCount) : exec (decodeCommit a d) s = .next (afterCommit (stored s a.toNat (shiftIn s.shiftRegister d))) := by
  have hlt := a.isLt
  have serve {w : BitVec 2} {u : State} (hw : a.toNat / 0x2000 % 4 = w.toNat) :
      s.serve .mmc1 (s.commitRow w a d) u.committed = .next (afterCommit u) :=
    (s.serve_row _ _ _ hs.2 hs.1 ((s.commitRow_iff w a d).mpr ⟨ha, hw, hd, hc⟩)).trans u.committed_eq
  rw [decodeCommit_eq a d ha]
  unfold stored
  split_ifs
  · rw [← Mirroring.ofControl_eq_mirroringOf]
    exact serve (by simp only [BitVec.reduceToNat]; omega)
  · exact serve (by simp only [BitVec.reduceToNat]; omega)
  · exact serve (by simp only [BitVec.reduceToNat]; omega)
  · exact serve (by simp only [BitVec.reduceToNat]; omega)

/-- The state after a shift write (R134). -/
def State.afterShift (s : State) (d : Byte) : State :=
  (s.withProtocol (shiftIn s.shiftRegister d) (s.shiftCount + 1)).withResult .nothing

theorem State.answers.afterShift {s : State} {v : Variant} (h : s.answers v) (d : Byte) : (s.afterShift d).answers v := h

@[simp] theorem State.afterShift_shiftCount (s : State) (d : Byte) : (s.afterShift d).shiftCount = s.shiftCount + 1 := rfl

theorem stored_withPending (s : State) (p : List Request) (a : Nat) (v : Reg5) :
    stored (s.withPending p) a v = (stored s a v).withPending p := by
  unfold stored
  split_ifs <;> rfl

/-- Of the protocol state before it a commit leaves nothing (R135). -/
theorem afterCommit_stored_afterShift (s : State) (d : Byte) (a : Nat) (v : Reg5) :
    afterCommit (stored (s.afterShift d) a v) = afterCommit (stored s a v) := by
  unfold stored
  split_ifs <;> rfl

section
variable {s : State} {a : Addr} {d : Byte} (rest : List Request) (k : Nat) (hs : s.answers .mmc1) (ha : 0x8000 ≤ a.toNat)
  (hd : d.toNat < 0x80)
include hs ha hd

/-- A run whose oldest request is a write below shiftCount 4 shifts first (R86, R134). -/
theorem run_shiftWrite (hc : s.shiftCount < 4) :
    (s.withPending (.bus (Word26.cpuWrite a d) :: rest)).run (k + 1) = ((s.afterShift d).withPending rest).run k := by
  have hi : s.decodeFor (.bus (Word26.cpuWrite a d)) = .ok (.mWrShift a d) := by
    rw [State.decodeFor, hs.1]
    exact decodeWord_of_spelledBy (mWrShift_spelledBy _ a d ha hd hc)
  refine State.run_succ k _ _ ((step_of_pending (s.withPending _) _ rest _ rfl hi).trans ?_)
  exact State.serve_row _ _ _ _ hs.2 hs.1 ((s.shiftRow_iff a d).mpr ⟨ha, hd, hc⟩)

/-- A run whose oldest request is a write at shiftCount 4 commits first (R86, R135). -/
theorem run_commitWrite (hc : 4 ≤ s.shiftCount) :
    (s.withPending (.bus (Word26.cpuWrite a d) :: rest)).run (k + 1) =
      ((afterCommit (stored s a.toNat (shiftIn s.shiftRegister d))).withPending rest).run k := by
  have hi : s.decodeFor (.bus (Word26.cpuWrite a d)) = .ok (decodeCommit a d) := by
    rw [State.decodeFor, hs.1]
    exact decodeWord_commit _ a d ha hd hc
  refine State.run_succ k _ _ ((step_of_pending (s.withPending _) _ rest _ rfl hi).trans ?_)
  refine (exec_decodeCommit (s := s.withPending rest) hs ha hd hc).trans ?_
  rw [stored_withPending]
  rfl

end

/-- Settles O38: four shifts and a commit, whose value has lost every bit the register held before. -/
theorem fiveShiftWritesLoadARegister : Obligations.FiveShiftWritesLoadARegister := by
  intro s a0 a1 a2 a3 a4 d0 d1 d2 d3 d4 rest hs hc ha hd hp
  simp only [List.forall_mem_cons] at ha hd
  obtain ⟨ha0, ha1, ha2, ha3, ha4, -⟩ := ha
  obtain ⟨hd0, hd1, hd2, hd3, hd4, -⟩ := hd
  have hs1 := hs.afterShift d0
  have hs2 := hs1.afterShift d1
  have hs3 := hs2.afterShift d2
  have hs4 := hs3.afterShift d3
  have hself : s.withPending s.pending = s := rfl
  rw [hp] at hself
  refine (congrArg (State.run 5) hself.symm).trans ?_
  simp only [List.cons_append, List.nil_append]
  rw [run_shiftWrite _ 4 hs ha0 hd0 (by simp [hc]), run_shiftWrite _ 3 hs1 ha1 hd1 (by simp [hc]),
    run_shiftWrite _ 2 hs2 ha2 hd2 (by simp [hc]), run_shiftWrite _ 1 hs3 ha3 hd3 (by simp [hc]),
    run_commitWrite _ 0 hs4 ha4 hd4 (by simp [hc]), State.run_zero, ← shiftIn_five s.shiftRegister]
  simp only [afterCommit_stored_afterShift]
  rfl

/-- Settles O36: the rows see D[7] only, the shifted value D[0] only, and the reset write's effect no bit. -/
theorem ignoredDataBitsChangeNothing : Obligations.IgnoredDataBitsChangeNothing := by
  intro a d e s
  refine ⟨fun ha hd sc => decodeWord_of_spelledBy (mWrReset_spelledBy sc a d ha hd), fun ha hd => ⟨fun sc hsc =>
    decodeWord_of_spelledBy (mWrShift_spelledBy sc a d ha hd hsc), fun sc h => ?_⟩, fun hd he => ?_, fun hd he hde => ?_⟩
  · have hwf := (decodeWord_spelledBy h).wf
    simp only [Instr.wf, Bool.and_eq_true, decide_eq_true_eq] at hwf
    omega
  · have hreset : d.isReset = e.isReset := (d.isReset_iff.mpr hd).trans (e.isReset_iff.mpr he).symm
    simp only [exec, execMWrReset, hreset]
  · have hreset : d.isReset = e.isReset := (d.isReset_false_iff.mpr hd).trans (e.isReset_false_iff.mpr he).symm
    simp only [exec, execMWrShift, execMWrCommitCtrl, execMWrCommitChr0, execMWrCommitChr1, execMWrCommitPrg, State.commitRow,
      hreset, shiftIn_congr s.shiftRegister hde, and_self]

end Sys2Proof.Machine
end

section
/-! PROOFS. The dispatcher family: MapsChr, what an operation of a session keeps, and the three outcomes of Construct. -/

namespace Sys2Proof.Machine

open Sys2Proof.Claims

/-! ## What a session keeps -/

/-- No register is the variant. -/
theorem StoresRegister.keeps_variant {s u : State} {i : Instr} (h : StoresRegister s i u) : u.variant = s.variant := by
  cases h <;> rfl

/-- Settles O6: a stored register is the one effect of a session that reaches the cartridge, and there it reaches the mirroring cell only. -/
theorem sessionKeepsVariantAndParameters : Obligations.SessionKeepsVariantAndParameters := by
  intro i s t h hi
  cases exec_effect h with
  | answer | fault | ramWrite | shift | recompute => exact ⟨rfl, rfl⟩
  | register u hu =>
    obtain ⟨hcart, -, -⟩ := hu.frame
    exact ⟨hu.keeps_variant, hcart⟩
  | nrom | mmc1 => cases hi

/-! ## MapsChr -/

/-- MapsChr completes on every unfaulted block, of either variant (R113). -/
theorem exec_mapsChr {s : State} {b : Bool} (hf : s.faulted = none) (hb : mapsChrOf s.variant = b) :
    exec .mapsChr s = .next (s.withResult (.flag b)) := by
  subst hb
  exact s.serve_row _ _ _ hf rfl rfl

/-- Settles O5: the answer is a function of the variant, which a session keeps. -/
theorem mapsChrIsAConstantOfTheVariant : Obligations.MapsChrIsAConstantOfTheVariant := by
  refine ⟨fun s hf => ⟨fun hv => ?nrom, fun hv => ?mmc1⟩, fun i s t h hi => ?session⟩
  case nrom => exact exec_mapsChr hf (congrArg mapsChrOf hv)
  case mmc1 => exact exec_mapsChr hf (congrArg mapsChrOf hv)
  case session =>
    obtain ⟨hv, -⟩ := sessionKeepsVariantAndParameters i s t h hi
    rw [hv]

/-! ## Construct -/

/-- CONSTRUCT.NROM completes for a cartridge that meets the preconditions (R110). -/
theorem exec_constructNrom_of_wf (c : Cartridge) (s : State) (hc : c.wf = true) :
    exec (.constructNrom c) s = .next (s.constructedNrom c) :=
  constructWith_wf c _ hc

/-- CONSTRUCT.MMC1 completes for a cartridge that meets the preconditions (R110). -/
theorem exec_constructMmc1_of_wf (c : Cartridge) (s : State) (hc : c.wf = true) :
    exec (.constructMmc1 c) s = .next (s.constructedMmc1 c) :=
  constructWith_wf c _ hc

/-- A constructed MMC1 block reads the cartridge's PRGRAM_INIT in its program RAM (R35, R40; log 5). -/
theorem State.constructedMmc1_prgRamByte (s : State) (c : Cartridge) (i : Nat) :
    (s.constructedMmc1 c).prgRamByte i = (Memory.read c.prgRamInit i).getD (Config.prgRamInit c.serial i) := rfl

/-- Settles O2: both constructions complete, in the states whose fields the construction table lists. -/
theorem constructionBuildsTheVariant : Obligations.ConstructionBuildsTheVariant := by
  intro c s hc
  refine ⟨⟨s.constructedMmc1 c, exec_constructMmc1_of_wf c s hc, ?_⟩, exec_constructNrom_of_wf c s hc⟩
  exact ⟨rfl, rfl, rfl, rfl, rfl, rfl, rfl, rfl, rfl, rfl, rfl, rfl, rfl, fun i _ => s.constructedMmc1_prgRamByte c i⟩

/-- Settles O3: an identifier from 2 upward takes the faulting branch of CONSTRUCT.BAD. -/
theorem unsupportedIdentifierStops : Obligations.UnsupportedIdentifierStops := by
  intro n s hn
  exact if_pos hn

end Sys2Proof.Machine
end

section
/-! PROOFS. The fixed-mapping family: the two ROM reads in the words of the statements, the NROM translation in plain arithmetic, one
equation per NROM operation, and the block without state of its own. -/

namespace Sys2Proof.Machine

open Sys2Proof.Claims

/-! ## The ROM reads and the NROM translation in the words of the statements -/

/-- PrgRomRead(off) is the read of the statements (R9). -/
theorem State.prgRomRead_eq_prgRead (s : State) (off : Nat) : s.prgRomRead off = .next (prgRead s off) :=
  (apply_ite Host.Outcome.next _ _ _).symm

/-- ChrRomRead(off) is the read of the statements (R9). -/
theorem State.chrRomRead_eq_chrRead (s : State) (off : Nat) : s.chrRomRead off = .next (chrRead s off) :=
  (apply_ite Host.Outcome.next _ _ _).symm

theorem prgRead_inside {s : State} {off : Nat} (h : off < s.cart.prgBanks * 0x4000) :
    prgRead s off = s.withResult (.byte (prgRomAt s.cart off)) :=
  if_pos h

/-- The base of R121 subtracted is the translation of the statements. -/
theorem nromOffset_eq_nromTable (banks : Nat) (a : Addr) : nromOffset banks a = nromTable banks a.toNat := by
  unfold nromOffset nromBase nromTable
  by_cases hbanks : banks = 1
  · by_cases ha : 0xC000 < a.toNat <;> simp [hbanks, ha]
  · simp [hbanks]

/-- Up to 0xC000, the boundary of decision D7 included, the base is 0x8000 for every number of banks. -/
theorem nromTable_low (banks : Nat) {n : Nat} (hn : n ≤ 0xC000) : nromTable banks n = n - 0x8000 :=
  if_neg fun h => absurd h.2 (not_lt.mpr hn)

/-- Strictly above 0xC000 the one bank is seen a second time (decision D7). -/
theorem nromTable_oneBank_high {n : Nat} (hn : 0xC000 < n) : nromTable 1 n = n - 0xC000 :=
  if_pos ⟨rfl, hn⟩

/-- Any other number of banks is read linearly. -/
theorem nromTable_of_ne_one {banks : Nat} (hbanks : banks ≠ 1) (n : Nat) : nromTable banks n = n - 0x8000 :=
  if_neg fun h => hbanks h.1

/-! ## One equation per operation -/

/-- Settles O9: below 0x8000 the row of the low read holds, and its effect is the fault. -/
theorem nromLowReadFaults : Obligations.NromLowReadFaults :=
  fun _ s hs ha => s.serve_row _ _ _ hs.2 hs.1 (decide_eq_true ha)

/-- Settles O7: from 0x8000 the row of the program read holds, and the model's base gives the offset of the table. -/
theorem nromProgramReadFollowsItsBase : Obligations.NromProgramReadFollowsItsBase := by
  intro a s hs ha
  rw [← nromOffset_eq_nromTable, ← State.prgRomRead_eq_prgRead]
  exact s.serve_row _ _ _ hs.2 hs.1 (decide_eq_true ha)

/-- Settles O10: the row of the write holds at every address, and its effect is to complete. -/
theorem nromWritesDoNothing : Obligations.NromWritesDoNothing :=
  fun _ _ s hs => s.serve_row _ _ _ hs.2 hs.1 rfl

/-- Settles O11: below 0x2000 the row of the pattern read holds, and the offset is the address. -/
theorem nromPatternReadPassesThrough : Obligations.NromPatternReadPassesThrough := by
  intro a s hs ha
  rw [← State.chrRomRead_eq_chrRead]
  exact s.serve_row _ _ _ hs.2 hs.1 (decide_eq_true (Nat.lt_succ_of_le ha))

/-- Settles O12: from 0x2000 the row of the out-of-range read holds, and its effect is the fault. -/
theorem nromPatternReadOutOfRangeFaults : Obligations.NromPatternReadOutOfRangeFaults :=
  fun a s hs ha => s.serve_row _ _ _ hs.2 hs.1 (a.not_inPattern_iff.mpr ha)

/-! ## Mirroring and linear reads -/

/-- A program read whose translation is inside PRG_ROM answers the byte there. -/
theorem exec_nRdPrg_inside {a : Addr} {s : State} {off : Nat} (hs : s.answers .nrom) (ha : 0x8000 ≤ a.toNat)
    (hoff : nromTable s.cart.prgBanks a.toNat = off) (hin : off < s.cart.prgBanks * 0x4000) :
    exec (.nRdPrg a) s = .next (s.withResult (.byte (prgRomAt s.cart off))) := by
  rw [nromProgramReadFollowsItsBase a s hs ha, hoff, prgRead_inside hin]

/-- Settles O8: with one bank both addresses translate to the offset of the lower one, with two banks 0x8000 + k translates to k. -/
theorem nromMirrorsOneBankAndReadsTwoLinearly : Obligations.NromMirrorsOneBankAndReadsTwoLinearly := by
  intro a s hs
  refine ⟨fun hbanks hlow hhigh => ?oneBank, fun hbanks k hk => ?twoBanks⟩
  case oneBank =>
    have hin : a.toNat - 0x8000 < s.cart.prgBanks * 0x4000 := by omega
    have hoff : nromTable s.cart.prgBanks a.toNat = a.toNat - 0x8000 := nromTable_low _ (by omega)
    have hread := exec_nRdPrg_inside hs (by omega) hoff hin
    have hmirror : (a + 0x4000).toNat = a.toNat + 0x4000 := BitVec.toNat_add_of_lt (by simp only [BitVec.reduceToNat]; omega)
    have hoff' : nromTable s.cart.prgBanks (a + 0x4000).toNat = a.toNat - 0x8000 := by
      rw [hbanks, hmirror, nromTable_oneBank_high (by omega)]
      omega
    exact ⟨hread.trans (exec_nRdPrg_inside hs (by omega) hoff' hin).symm, hread⟩
  case twoBanks =>
    have haddr : (BitVec.ofNat 16 (0x8000 + k)).toNat = 0x8000 + k := Nat.mod_eq_of_lt (by omega)
    have hoff : nromTable s.cart.prgBanks (BitVec.ofNat 16 (0x8000 + k)).toNat = k := by
      rw [nromTable_of_ne_one (by omega), haddr]
      omega
    exact exec_nRdPrg_inside hs (by omega) hoff (by omega)

/-! ## No state of its own -/

/-- `u` with the answer and the fault condition of `t`: all that an operation of an NROM block writes (R120). -/
def State.answeringLike (u t : State) : State := (u.withResult t.result).withFaulted t.faulted

section
variable {s u : State}

theorem State.answeringLike_withResult (hf : u.faulted = s.faulted) (r : Result) :
    u.answeringLike (s.withResult r) = u.withResult r := by
  rw [State.answeringLike, State.withResult_faulted, ← hf]
  rfl

variable (hf : u.faulted = s.faulted) (hcart : u.cart = { s.cart with mirroring := u.cart.mirroring }) (off : Nat)
include hf hcart

/-- A read of PRG_ROM is decided by the parameters of the cartridge (R36). -/
theorem prgRead_eq_answeringLike : prgRead u off = u.answeringLike (prgRead s off) := by
  have hsize : u.cart.prgBanks = s.cart.prgBanks := by rw [hcart]
  have hbyte : prgRomAt u.cart off = prgRomAt s.cart off := by rw [hcart]; rfl
  rw [prgRead, prgRead, hsize, hbyte]
  split_ifs
  · exact (State.answeringLike_withResult hf _).symm
  · rfl

/-- A read of CHR_ROM is decided by the parameters of the cartridge (R36). -/
theorem chrRead_eq_answeringLike : chrRead u off = u.answeringLike (chrRead s off) := by
  have hsize : u.cart.chrSize = s.cart.chrSize := by rw [hcart]
  have hbyte : chrRomAt u.cart off = chrRomAt s.cart off := by rw [hcart]; rfl
  rw [chrRead, chrRead, hsize, hbyte]
  split_ifs
  · exact (State.answeringLike_withResult hf _).symm
  · rfl

end

/-- An NROM block with the parameters and the fault condition of another answers as that one does. -/
theorem exec_nrom_answeringLike {i : Instr} {s t u : State} (hv : s.variant = .nrom) (hu : u.variant = .nrom)
    (hcart : u.cart = { s.cart with mirroring := u.cart.mirroring }) (hf : u.faulted = s.faulted) (hi : isConstruct i = false)
    (h : exec i s = .next t) : exec i u = .next (u.answeringLike t) := by
  cases i with
  | nRdLow a =>
    obtain ⟨hs, -, ha, rfl⟩ := execNRdLow_next a s t h
    exact nromLowReadFaults a u ⟨hu, hf.trans hs⟩ (of_decide_eq_true ha)
  | nRdPrg a =>
    obtain ⟨hs, -, ha, -⟩ := execNRdPrg_next a s t h
    have ha : 0x8000 ≤ a.toNat := of_decide_eq_true ha
    have hbanks : u.cart.prgBanks = s.cart.prgBanks := by rw [hcart]
    cases (nromProgramReadFollowsItsBase a s ⟨hv, hs⟩ ha).symm.trans h
    rw [nromProgramReadFollowsItsBase a u ⟨hu, hf.trans hs⟩ ha, hbanks, prgRead_eq_answeringLike hf hcart]
  | nWr a d =>
    obtain ⟨hs, -, rfl⟩ := execNWr_next a d s t h
    rw [State.answeringLike_withResult hf]
    exact nromWritesDoNothing a d u ⟨hu, hf.trans hs⟩
  | nChr a =>
    obtain ⟨hs, -, ha, -⟩ := execNChr_next a s t h
    have ha : a.toNat ≤ 0x1FFF := Nat.le_of_lt_succ (of_decide_eq_true ha)
    cases (nromPatternReadPassesThrough a s ⟨hv, hs⟩ ha).symm.trans h
    rw [nromPatternReadPassesThrough a u ⟨hu, hf.trans hs⟩ ha, chrRead_eq_answeringLike hf hcart]
  | nChrOor a =>
    obtain ⟨hs, -, ha, rfl⟩ := execNChrOor_next a s t h
    exact nromPatternReadOutOfRangeFaults a u ⟨hu, hf.trans hs⟩ (a.not_inPattern_iff.mp ha)
  | mapsChr =>
    obtain ⟨hs, rfl⟩ := execMapsChr_next s t h
    rw [State.answeringLike_withResult hf]
    exact exec_mapsChr (hf.trans hs) (congrArg mapsChrOf (hu.trans hv.symm))
  | constructNrom | constructMmc1 | constructBad => cases hi
  | mRdLow | mRdRam | mRdPrg | mChr | mChrOor | mWrIgn | mWrRam | mWrReset | mWrShift | mWrCommitCtrl | mWrCommitChr0 | mWrCommitChr1
  | mWrCommitPrg | recompute =>
    obtain ⟨-, hmmc1, -, -⟩ := State.serve_next _ _ _ _ _ h
    cases hv.symm.trans hmmc1

/-- Settles O13: a block answers like itself, so the frame is the other clause at the block itself. -/
theorem nromBlockHasNoStateOfItsOwn : Obligations.NromBlockHasNoStateOfItsOwn := by
  intro i s s' t hv hv' hcart hf hi h
  have hself := exec_nrom_answeringLike hv hv rfl rfl hi h
  exact ⟨Host.Outcome.next.inj (h.symm.trans hself), exec_nrom_answeringLike hv hv' hcart hf hi h⟩

end Sys2Proof.Machine
end

section
/-! PROOFS. The serial-protocol writes family: one equation per write, the transition table of the protocol state, and the load of a
register through other traffic. -/

namespace Sys2Proof

/-- The model's shift is the shift of the statements (R84, R134). -/
theorem shiftIn_eq_shifted (sr : Reg5) (d : Byte) : shiftIn sr d = Claims.shifted sr d := by
  have hlt := (shiftIn sr d).isLt
  rw [shiftIn_toNat] at hlt
  refine BitVec.eq_of_toNat_eq ?_
  rw [shiftIn_toNat, Claims.shifted, BitVec.toNat_ofNat, Nat.mod_eq_of_lt hlt]

/-- The reset write's `control |= 0x0C` forces bits 3 and 2 and keeps bit 4 (R133). -/
theorem Reg5.bits_or_0x0C (v : Reg5) :
    (v ||| 0x0C).getLsbD 2 = true ∧ (v ||| 0x0C).getLsbD 3 = true ∧ (v ||| 0x0C).getLsbD 4 = v.getLsbD 4 := by
  revert v
  decide

/-- Where bits 3 and 2 are already set the reset write keeps `control` (R133 (e)). -/
theorem Reg5.or_0x0C_of_set (v : Reg5) : v.toNat / 4 % 4 = 3 → v ||| 0x0C = v := by
  revert v
  decide

end Sys2Proof

namespace Sys2Proof.Machine

open Sys2Proof.Claims

/-! ## The writes that leave the protocol state alone -/

/-- Settles O20: the row holds, and the operation is a completed mutation of nothing. -/
theorem lowWriteIsIgnored : Obligations.LowWriteIsIgnored := fun _ _ s hs ha =>
  s.serve_row _ _ _ hs.2 hs.1 (decide_eq_true ha)

/-- Settles O21: the one read rule of a stored byte, at the written index and at every other. -/
theorem programRamWriteStoresOneByte : Obligations.ProgramRamWriteStoresOneByte := by
  intro a d s hs ha ha'
  refine ⟨_, exec_mWrRam_of_inRam a d s hs (a.inRam_iff.mpr ⟨ha, ha'⟩), ?_, fun j hj => ?_, rfl⟩
  · rw [State.withResult_prgRamByte, State.prgRamByte_write]
    exact if_pos rfl
  · rw [State.withResult_prgRamByte, State.prgRamByte_write]
    exact if_neg hj

/-! ## The reset write and the shift write -/

theorem prgOffsetsOf_or_0x0C (control prg : Reg5) (banks : Nat) :
    prgOffsetsOf (control ||| 0x0C) prg banks = ⟨0x4000 * prg.toNat, 0x4000 * (banks - 1)⟩ := by
  obtain ⟨h2, h3, -⟩ := control.bits_or_0x0C
  simp only [prgOffsetsOf, h2, h3, Bool.true_eq_false, if_false]

theorem chrOffsetsOf_or_0x0C (control chr0 chr1 : Reg5) :
    chrOffsetsOf (control ||| 0x0C) chr0 chr1 = chrTable control chr0 chr1 := by
  obtain ⟨-, -, h4⟩ := control.bits_or_0x0C
  rw [← chrOffsetsOf_eq_chrTable, chrOffsetsOf, h4, chrOffsetsOf]

/-- Recompute() changes nothing where the offsets are fresh. -/
theorem State.recomputed_of_offsetsFresh {s : State} (h : s.offsetsFresh) : s.recomputed = s := by
  rw [State.recomputed, ← h.1, ← h.2]
  rfl

/-- A reset write completes on an unfaulted MMC1 block (R133). -/
theorem exec_mWrReset_of_row {a : Addr} {d : Byte} {s : State} (hs : s.answers .mmc1) (ha : 0x8000 ≤ a.toNat) (hd : 0x80 ≤ d.toNat) :
    exec (.mWrReset a d) s =
      .next (((s.withProtocol 0 0).withControl (s.control ||| 0x0C)).recomputed.withResult .nothing) :=
  s.serve_row _ _ _ hs.2 hs.1 ((resetRow_iff a d).mpr ⟨ha, hd⟩)

/-- A shift write below shiftCount 4 completes on an unfaulted MMC1 block (R134). -/
theorem exec_mWrShift_of_row {a : Addr} {d : Byte} {s : State} (hs : s.answers .mmc1) (ha : 0x8000 ≤ a.toNat) (hd : d.toNat < 0x80)
    (hc : s.shiftCount < 4) : exec (.mWrShift a d) s = .next (s.afterShift d) :=
  s.serve_row _ _ _ hs.2 hs.1 ((s.shiftRow_iff a d).mpr ⟨ha, hd, hc⟩)

/-- Between two loads the invariant leaves no bit in the shift register (R39 (b)). -/
theorem State.protocolSound.shiftRegister_eq_zero {s : State} (h : s.protocolSound) (hc : s.shiftCount = 0) : s.shiftRegister = 0 := by
  obtain ⟨-, hbits⟩ := h
  rw [hc] at hbits
  have hlt := s.shiftRegister.isLt
  exact BitVec.eq_of_toNat_eq (by simpa [Nat.mod_eq_of_lt hlt] using hbits)

/-- Settles O24: bits 3 and 2 of `control` select the mode with the last bank fixed; with nothing to clear, nothing to force and fresh
offsets each of the write's updates is the identity. -/
theorem resetWriteClearsTheProtocol : Obligations.ResetWriteClearsTheProtocol := by
  intro a d s hs ha hd
  refine ⟨?_, fun hinv hc hcontrol => ?_⟩
  · rw [exec_mWrReset_of_row hs ha hd, ← prgOffsetsOf_or_0x0C s.control, ← chrOffsetsOf_or_0x0C]
    rfl
  · obtain ⟨hsound, hfresh⟩ := hinv.1 hs.1
    have hprotocol : s.withProtocol 0 0 = s :=
      congrArg₂ s.withProtocol (hsound.shiftRegister_eq_zero hc).symm hc.symm
    have hforced : s.withControl (s.control ||| 0x0C) = s := congrArg s.withControl (s.control.or_0x0C_of_set hcontrol)
    rw [exec_mWrReset_of_row hs ha hd, hprotocol, hforced, State.recomputed_of_offsetsFresh hfresh]
    rfl

/-- Settles O25: the bit that leaves is the lowest of those the invariant keeps 0. -/
theorem shiftWriteShiftsOneBit : Obligations.ShiftWriteShiftsOneBit := by
  intro a d s hs ha hd hc
  refine ⟨?_, fun hinv => ?_⟩
  · rw [exec_mWrShift_of_row hs ha hd (Nat.lt_succ_of_le hc), State.afterShift, shiftIn_eq_shifted]
    rfl
  · obtain ⟨-, hbits⟩ := (hinv.1 hs.1).1
    have hdvd : 2 ∣ 2 ^ (5 - s.shiftCount) := dvd_pow_self 2 (by omega)
    exact Nat.mod_eq_zero_of_dvd (hdvd.trans (Nat.dvd_of_mod_eq_zero hbits))

/-- Settles O37: both rows ask of the address only that it is a program address, and the effects do not mention it. -/
theorem onlyTheFifthAddressCounts : Obligations.OnlyTheFifthAddressCounts := by
  intro a b d s ha hb
  have hrow : a.inProgram = b.inProgram := (decide_eq_true ha).trans (decide_eq_true hb).symm
  simp only [exec, execMWrReset, execMWrShift, hrow, and_self]

/-! ## The commits -/

/-- Settles O26: the first of the four ranges of a committing write. -/
theorem commitToControlWritesMirroring : Obligations.CommitToControlWritesMirroring := by
  intro a d s hs ha ha' hd hc
  simpa only [decodeCommit_eq a d ha, stored, shiftIn_eq_shifted, if_pos ha'] using exec_decodeCommit hs ha hd hc.ge

/-- Settles O27: the second of the four ranges. -/
theorem commitToChr0 : Obligations.CommitToChr0 := by
  intro a d s hs ha ha' hd hc
  have hprogram : 0x8000 ≤ a.toNat := by omega
  simpa (disch := omega) only [decodeCommit_eq a d hprogram, stored, shiftIn_eq_shifted, if_neg, if_pos] using
    exec_decodeCommit hs hprogram hd hc.ge

/-- Settles O28: the third of the four ranges. -/
theorem commitToChr1 : Obligations.CommitToChr1 := by
  intro a d s hs ha ha' hd hc
  have hprogram : 0x8000 ≤ a.toNat := by omega
  simpa (disch := omega) only [decodeCommit_eq a d hprogram, stored, shiftIn_eq_shifted, if_neg, if_pos] using
    exec_decodeCommit hs hprogram hd hc.ge

/-- Settles O29: the last of the four ranges. -/
theorem commitToPrgSelect : Obligations.CommitToPrgSelect := by
  intro a d s hs ha hd hc
  have hprogram : 0x8000 ≤ a.toNat := by omega
  simpa (disch := omega) only [decodeCommit_eq a d hprogram, stored, shiftIn_eq_shifted, if_neg] using
    exec_decodeCommit hs hprogram hd hc.ge

/-! ## The transition table -/

/-- A commit that answers a next state was the committing write of its address, from shiftCount 4 on (R130, R135). -/
theorem exec_commit_next {i : Instr} {s t : State} {a : Addr} {d : Byte} {w : BitVec 2} (hs : s.answers .mmc1)
    (hrow : s.commitRow w a d = true) (hi : a.registerWindow = w → decodeCommit a d = i) (h : exec i s = .next t) :
    4 ≤ s.shiftCount ∧ t = afterCommit (stored s a.toNat (shifted s.shiftRegister d)) := by
  obtain ⟨ha, hw, hd, hc⟩ := (s.commitRow_iff w a d).mp hrow
  rw [← hi ((a.registerWindow_eq_iff w).mpr hw), exec_decodeCommit hs ha hd hc, shiftIn_eq_shifted] at h
  cases h
  exact ⟨hc, rfl⟩

/-- Settles O33: the reset write, the shift write and the commits by their own rules; no other operation writes the protocol state. -/
theorem protocolTransitionTable : Obligations.ProtocolTransitionTable := by
  intro i s t h hi
  cases i with
  | mWrReset a d =>
    obtain ⟨-, -, -, rfl⟩ := execMWrReset_next a d s t h
    exact ⟨rfl, rfl, rfl⟩
  | mWrShift a d =>
    obtain ⟨-, -, hrow, rfl⟩ := execMWrShift_next a d s t h
    obtain ⟨-, -, hc⟩ := (s.shiftRow_iff a d).mp hrow
    exact ⟨Nat.le_of_lt_succ hc, rfl, shiftIn_eq_shifted _ d⟩
  | mWrCommitCtrl a d =>
    obtain ⟨hf, hv, hrow, -⟩ := execMWrCommitCtrl_next a d s t h
    exact exec_commit_next ⟨hv, hf⟩ hrow (fun hw => by rw [decodeCommit, hw]; rfl) h
  | mWrCommitChr0 a d =>
    obtain ⟨hf, hv, hrow, -⟩ := execMWrCommitChr0_next a d s t h
    exact exec_commit_next ⟨hv, hf⟩ hrow (fun hw => by rw [decodeCommit, hw]; rfl) h
  | mWrCommitChr1 a d =>
    obtain ⟨hf, hv, hrow, -⟩ := execMWrCommitChr1_next a d s t h
    exact exec_commit_next ⟨hv, hf⟩ hrow (fun hw => by rw [decodeCommit, hw]; rfl) h
  | mWrCommitPrg a d =>
    obtain ⟨hf, hv, hrow, -⟩ := execMWrCommitPrg_next a d s t h
    exact exec_commit_next ⟨hv, hf⟩ hrow (fun hw => by rw [decodeCommit, hw]; rfl) h
  | mWrRam a d =>
    obtain ⟨-, -, -, rfl⟩ := execMWrRam_next a d s t h
    exact ⟨rfl, rfl⟩
  | recompute =>
    obtain ⟨-, -, rfl⟩ := execRecompute_next s t h
    exact ⟨rfl, rfl⟩
  | nRdLow | nRdPrg | nWr | nChr | nChrOor | mRdLow | mRdRam | mRdPrg | mWrIgn | mChr | mChrOor | mapsChr =>
    cases exec_effect h with
    | answer | fault => exact ⟨rfl, rfl⟩
    | register u hu => cases hu
  | constructNrom | constructMmc1 | constructBad => cases hi

/-! ## Other traffic -/

/-- A faulted block answers no operation of a session (R176 (d)). -/
theorem exec_of_faulted {i : Instr} {s : State} {r : FaultRecord} (hf : s.faulted = some r) (hi : isConstruct i = false) :
    exec i s = .fault (.halted r) := by
  cases i with
  | constructNrom | constructMmc1 | constructBad => cases hi
  | _ => exact s.serve_faulted _ _ _ r hf

/-- An operation of a session that answers a next state found the block unfaulted. -/
theorem faulted_eq_none_of_exec {i : Instr} {s t : State} (h : exec i s = .next t) (hi : isConstruct i = false) : s.faulted = none := by
  cases hf : s.faulted with
  | none => rfl
  | some r => cases (exec_of_faulted hf hi).symm.trans h

/-- The operations of the neutral requests on MMC1: the reads, MapsChr, and the writes below 0x8000 (R90, R140). -/
def isNeutralInstr (i : Instr) : Bool :=
  isRead i || match i with
    | .mWrIgn _ _ | .mWrRam _ _ => true
    | _ => false

/-- A neutral request decodes to a neutral operation. -/
theorem isNeutralInstr_of_decodeFor {s : State} {r : Request} {i : Instr} (hv : s.variant = .mmc1) (hr : isNeutral r = true)
    (h : s.decodeFor r = .ok i) : isNeutralInstr i = true := by
  cases r with
  | mapsChr => cases h; rfl
  | construct n c => cases hr
  | bus w =>
    rw [State.decodeFor, hv] at h
    obtain hk | hk | hk | hk := w.kind_cases
    · cases (decodeWord_mmc1_cpuRead _ hk).symm.trans h
      unfold decodeMmc1Read
      split_ifs <;> rfl
    · have ha : w.addr.toNat < 0x8000 := by simpa [isNeutral, hk] using hr
      cases (decodeWord_mmc1_cpuWrite _ hk).symm.trans h
      unfold decodeMmc1Write
      split_ifs
      · rfl
      · rfl
      all_goals omega
    · cases (decodeWord_mmc1_ppuRead _ hk).symm.trans h
      unfold decodeMmc1Ppu
      split_ifs <;> rfl
    · cases (decodeWord_of_kind_three _ _ hk).symm.trans h

/-- A neutral operation writes nothing but the program RAM, the answer and the fault condition. -/
theorem exec_neutral_next {i : Instr} {s t : State} (hi : isNeutralInstr i = true) (h : exec i s = .next t) :
    t = ((s.withPrgRam t.prgRam).withResult t.result).withFaulted t.faulted := by
  cases exec_effect h with
  | answer | fault | ramWrite => rfl
  | shift | recompute | nrom | mmc1 => cases hi
  | register u hu => cases hu <;> cases hi

/-- Performing the whole trace `p`. -/
def State.perform (s : State) (p : List Request) : Out := (s.withPending p).run p.length

theorem State.perform_pending (s : State) : s.perform s.pending = s.run s.pending.length := rfl

/-- A trace that is performed whole performs its oldest request first. -/
theorem State.perform_cons_next {s t : State} {r : Request} {p : List Request} (h : s.perform (r :: p) = .next t) :
    ∃ i u, s.decodeFor r = .ok i ∧ exec i (s.withPending p) = .next u ∧ u.run p.length = .next t := by
  obtain ⟨u, hstep, hrun⟩ := State.run_succ_next _ _ _ h
  obtain ⟨hp, -, -⟩ | ⟨_, _, i, hp, hi, hexec⟩ := step_next _ _ hstep
  · cases hp
  · cases hp
    exact ⟨i, u, hi, hexec, hrun⟩

/-- A bus transaction is no construction. -/
theorem isConstruct_of_decodeWord {v : Variant} {sc : Nat} {w : Word26} {i : Instr} (h : decodeWord v sc w = .ok i) :
    isConstruct i = false := by
  have hw := (decodeWord_spelledBy h).word
  cases i with
  | constructNrom | constructMmc1 | constructBad => cases hw
  | _ => rfl

/-- A trace that begins with a bus transaction is performed by an unfaulted block only. -/
theorem State.faulted_eq_none_of_perform_bus {s t : State} {w : Word26} {p : List Request} (h : s.perform (.bus w :: p) = .next t) :
    s.faulted = none := by
  obtain ⟨i, u, hi, hexec, -⟩ := State.perform_cons_next h
  exact faulted_eq_none_of_exec (s := s.withPending p) hexec (isConstruct_of_decodeWord hi)

/-- Neutral traffic leaves the rest of the trace a state that differs in the program RAM, the answer and the fault condition only. -/
theorem State.perform_neutral {s t : State} {n p : List Request} (hv : s.variant = .mmc1) (hn : ∀ r ∈ n, isNeutral r = true)
    (h : s.perform (n ++ p) = .next t) : ∃ m x f, (((s.withPrgRam m).withResult x).withFaulted f).perform p = .next t := by
  induction n generalizing s with
  | nil => exact ⟨s.prgRam, s.result, s.faulted, h⟩
  | cons r n ih =>
    rw [List.forall_mem_cons] at hn
    obtain ⟨i, u, hi, hexec, hrun⟩ := State.perform_cons_next h
    have hu := exec_neutral_next (isNeutralInstr_of_decodeFor hv hn.1 hi) hexec
    rw [hu] at hrun
    obtain ⟨m, x, f, h'⟩ := ih (s := ((s.withPrgRam u.prgRam).withResult u.result).withFaulted u.faulted) hv hn.2 hrun
    exact ⟨m, x, f, h'⟩

/-- Neutral traffic before a bus transaction raised no fault, if that transaction is performed. -/
theorem State.perform_neutral_bus {s t : State} {n p : List Request} {w : Word26} (hs : s.answers .mmc1)
    (hn : ∀ r ∈ n, isNeutral r = true) (h : s.perform (n ++ .bus w :: p) = .next t) :
    ∃ m x, ((s.withPrgRam m).withResult x).perform (.bus w :: p) = .next t := by
  obtain ⟨m, x, f, h⟩ := State.perform_neutral hs.1 hn h
  have hf : f = none := State.faulted_eq_none_of_perform_bus h
  rw [hf, ← hs.2] at h
  exact ⟨m, x, h⟩

@[simp] theorem State.afterShift_shiftRegister (s : State) (d : Byte) : (s.afterShift d).shiftRegister = shiftIn s.shiftRegister d := rfl

@[simp] theorem State.withPrgRam_withPrgRam (s : State) (m m' : Memory) : (s.withPrgRam m).withPrgRam m' = s.withPrgRam m' := rfl

/-- Of the shifts before it and their traffic a commit leaves the program RAM only (R135, R141). -/
theorem afterCommit_stored_afterShift_withPrgRam (s : State) (d : Byte) (m : Memory) (a : Nat) (v : Reg5) :
    afterCommit (stored ((s.afterShift d).withPrgRam m) a v) = (afterCommit (stored s a v)).withPrgRam m := by
  unfold stored
  split_ifs <;> rfl

theorem State.answers.withPrgRam {s : State} {v : Variant} (h : s.answers v) (m : Memory) : (s.withPrgRam m).answers v := h

/-- A shift write below shiftCount 4, with neutral traffic before it, shifts; of the traffic only the program RAM stays. -/
theorem State.perform_shiftWrite {s t : State} {n p : List Request} {w : Request} {a : Addr} {d : Byte} (hs : s.answers .mmc1)
    (hc : s.shiftCount < 4) (hn : ∀ r ∈ n, isNeutral r = true) (hw : isShiftOf w a d) (h : s.perform (n ++ w :: p) = .next t) :
    ∃ m, ((s.afterShift d).withPrgRam m).perform p = .next t := by
  obtain ⟨rfl, ha, hd⟩ := hw
  obtain ⟨m, x, h⟩ := State.perform_neutral_bus hs hn h
  exact ⟨m, (run_shiftWrite (s := (s.withPrgRam m).withResult x) p p.length hs ha hd hc).symm.trans h⟩

/-- The last write of a trace, at shiftCount 4 and with neutral traffic before it, commits; of the traffic only the program RAM stays. -/
theorem State.perform_commitWrite {s t : State} {n : List Request} {w : Request} {a : Addr} {d : Byte} (hs : s.answers .mmc1)
    (hc : 4 ≤ s.shiftCount) (hn : ∀ r ∈ n, isNeutral r = true) (hw : isShiftOf w a d) (h : s.perform (n ++ [w]) = .next t) :
    ∃ m, t = ((afterCommit (stored s a.toNat (shiftIn s.shiftRegister d))).withPrgRam m).withPending [] := by
  obtain ⟨rfl, ha, hd⟩ := hw
  obtain ⟨m, x, h⟩ := State.perform_neutral_bus hs hn h
  cases (run_commitWrite (s := (s.withPrgRam m).withResult x) [] 0 hs ha hd hc).symm.trans h
  refine ⟨m, ?_⟩
  unfold stored
  split_ifs <;> rfl

/-- Settles O39: four shifts and a commit, each with its traffic before it, on a register that keeps no bit from before the five. -/
theorem shiftWritesLoadARegisterThroughOtherTraffic : Obligations.ShiftWritesLoadARegisterThroughOtherTraffic := by
  intro s t n0 n1 n2 n3 n4 w0 w1 w2 w3 w4 a0 a1 a2 a3 a4 d0 d1 d2 d3 d4 hs hc hn hw0 hw1 hw2 hw3 hw4 hp h
  simp only [List.forall_mem_append] at hn
  obtain ⟨⟨⟨⟨hn0, hn1⟩, hn2⟩, hn3⟩, hn4⟩ := hn
  rw [← State.perform_pending, hp] at h
  simp only [List.append_assoc, List.cons_append] at h
  obtain ⟨m0, h⟩ := State.perform_shiftWrite hs (by omega) hn0 hw0 h
  have hs1 := (hs.afterShift d0).withPrgRam m0
  obtain ⟨m1, h⟩ := State.perform_shiftWrite hs1 (by simp [hc]) hn1 hw1 h
  have hs2 := (hs1.afterShift d1).withPrgRam m1
  obtain ⟨m2, h⟩ := State.perform_shiftWrite hs2 (by simp [hc]) hn2 hw2 h
  have hs3 := (hs2.afterShift d2).withPrgRam m2
  obtain ⟨m3, h⟩ := State.perform_shiftWrite hs3 (by simp [hc]) hn3 hw3 h
  have hs4 := (hs3.afterShift d3).withPrgRam m3
  obtain ⟨m4, ht⟩ := State.perform_commitWrite hs4 (by simp [hc]) hn4 hw4 h
  simp only [afterCommit_stored_afterShift_withPrgRam, State.withPrgRam_withPrgRam, State.afterShift_shiftRegister,
    State.withPrgRam_shiftRegister, shiftIn_five] at ht
  rw [ht]
  rfl

end Sys2Proof.Machine
end

section
/-! PROOFS. The offset-recompute family: RECOMPUTE in the words of the statements. -/

namespace Sys2Proof.Machine

open Sys2Proof.Claims

/-- Recompute() stores the offsets of the tables of R151 to R155. -/
theorem State.recomputed_eq_withOffsets (s : State) : s.recomputed =
    s.withOffsets (prgTable s.control s.prgSelect s.cart.prgBanks) (chrTable s.control s.chr0Select s.chr1Select) := by
  rw [State.recomputed, prgOffsetsOf_eq_prgTable, chrOffsetsOf_eq_chrTable]

/-- RECOMPUTE has no condition on operands: it completes on every unfaulted MMC1 block (R150). -/
theorem exec_recompute_of_answers {s : State} (hs : s.answers .mmc1) :
    exec .recompute s = .next (s.recomputed.withResult .nothing) :=
  s.serve_row _ _ _ hs.2 hs.1 rfl

/-- Settles O30: the operation only stores the offsets, and the model's masks compute those of the mode table. -/
theorem recomputeFollowsTheModeTable : Obligations.RecomputeFollowsTheModeTable := by
  intro s hs
  rw [exec_recompute_of_answers hs, State.recomputed_eq_withOffsets]
  rfl

end Sys2Proof.Machine
end

section
/-! PROOFS. The read-path family: one equation per read of the serial-protocol variant, and the answer field, which no operation reads. -/

namespace Sys2Proof.Machine

open Sys2Proof.Claims

/-! ## One equation per read -/

/-- From 0x8000 a program read is a PRG_ROM read at the translated offset (R163). -/
theorem exec_mRdPrg_of_inProgram {a : Addr} {s : State} (hs : s.answers .mmc1) (ha : 0x8000 ≤ a.toNat) :
    exec (.mRdPrg a) s = .next (prgRead s (s.prgOffset a)) := by
  rw [← State.prgRomRead_eq_prgRead]
  exact s.serve_row _ _ _ hs.2 hs.1 (decide_eq_true ha)

/-- Up to 0x1FFF a pattern read is a CHR_ROM read at the translated offset (R164). -/
theorem exec_mChr_of_inPattern {a : Addr} {s : State} (hs : s.answers .mmc1) (ha : a.toNat ≤ 0x1FFF) :
    exec (.mChr a) s = .next (chrRead s (s.chrOffset a)) := by
  rw [← State.chrRomRead_eq_chrRead]
  exact s.serve_row _ _ _ hs.2 hs.1 (decide_eq_true (Nat.lt_succ_of_le ha))

/-- Settles O16: the translated offset of each window is its entry plus the distance from the window's start. -/
theorem mmc1ProgramReadUsesItsWindow : Obligations.Mmc1ProgramReadUsesItsWindow := by
  intro a s hs
  refine ⟨fun hlow hhigh => ?window0, fun hlow => ?window1⟩
  case window0 => rw [exec_mRdPrg_of_inProgram hs hlow, s.prgOffset_window0 a hlow hhigh]
  case window1 => rw [exec_mRdPrg_of_inProgram hs (by omega), s.prgOffset_window1 a hlow]

/-- Settles O17: the translated offset of each window is its entry plus the distance from the window's start. -/
theorem mmc1PatternReadUsesItsWindow : Obligations.Mmc1PatternReadUsesItsWindow := by
  intro a s hs
  refine ⟨fun hhigh => ?window0, fun hlow hhigh => ?window1⟩
  case window0 => rw [exec_mChr_of_inPattern hs (by omega), s.chrOffset_window0 a hhigh]
  case window1 => rw [exec_mChr_of_inPattern hs hhigh, s.chrOffset_window1 a hlow hhigh]

/-- Settles O14: below 0x6000 the row of the low read holds, and its effect is the fault. -/
theorem mmc1LowReadFaults : Obligations.Mmc1LowReadFaults :=
  fun _ s hs ha => s.serve_row _ _ _ hs.2 hs.1 (decide_eq_true ha)

/-- Settles O15: the program RAM byte of the index of A is the listed one or the free value. -/
theorem programRamReadReturnsItsByte : Obligations.ProgramRamReadReturnsItsByte :=
  fun a s hs ha ha' => exec_mRdRam_of_inRam a s hs (a.inRam_iff.mpr ⟨ha, ha'⟩)

/-- Settles O18: from 0x2000 the row of the out-of-range read holds, and its effect is the fault. -/
theorem mmc1PatternReadOutOfRangeFaults : Obligations.Mmc1PatternReadOutOfRangeFaults :=
  fun a s hs ha => s.serve_row _ _ _ hs.2 hs.1 (a.not_inPattern_iff.mpr ha)

/-! ## No read changes any state -/

/-- A read writes its answer, or no answer and the fault condition (R55 (a), R166, R176). -/
theorem exec_read_next {i : Instr} {s t : State} (hi : isRead i = true) (h : exec i s = .next t) :
    (∃ r, t = s.withResult r) ∨ ∃ f, t = (s.withResult .nothing).withFaulted (some f) := by
  cases exec_effect h with
  | answer r => exact .inl ⟨r, rfl⟩
  | fault f => exact .inr ⟨f, rfl⟩
  | ramWrite | shift | recompute | nrom | mmc1 => cases hi
  | register u hu => cases hu <;> cases hi

/-- The answer of one operation has no influence on the next: none reads the field, and each that answers a next state writes it anew. -/
theorem exec_withResult (j : Instr) (s : State) (r : Result) : exec j (s.withResult r) = exec j s := by
  cases j <;> rfl

/-- Settles O40: a read that does not fault leaves the block with another answer and nothing else. -/
theorem readsChangeNothing : Obligations.ReadsChangeNothing := by
  intro i s t h hi
  obtain ⟨r, rfl⟩ | ⟨f, rfl⟩ := exec_read_next hi h
  · exact ⟨rfl, fun _ j => exec_withResult j s r⟩
  · exact ⟨rfl, nofun⟩

end Sys2Proof.Machine
end

section
/-! PROOFS. The exceptions family: the record an operation raises as a function of the operation and the block, the completed writes, the
precise fault, and the halted and the idle block. -/

namespace Sys2Proof.Machine

open Sys2Proof.Claims

/-! ## The record an operation raises -/

/-- The record a read of a ROM of `size` bytes raises: RomBoundsFault at and beyond its end (R173). -/
def romFault (rom : Rom) (size off : Nat) : Option FaultRecord :=
  if size ≤ off then some (.romBounds rom off) else none

theorem romFault_eq_some_iff {rom : Rom} {size off : Nat} {r : FaultRecord} :
    romFault rom size off = some r ↔ size ≤ off ∧ FaultRecord.romBounds rom off = r :=
  Option.ite_none_right_eq_some.trans (and_congr_right fun _ => Option.some_inj)

/-- The fault condition after a read of a ROM by an unfaulted block. -/
theorem faulted_of_romRead {s t : State} {rom : Rom} {size off : Nat} {b : Byte} (hs : s.faulted = none)
    (h : (off < size ∧ t = s.withResult (.byte b)) ∨
      (size ≤ off ∧ t = (s.withResult .nothing).withFaulted (some (.romBounds rom off)))) :
    t.faulted = romFault rom size off := by
  obtain ⟨hin, rfl⟩ | ⟨hout, rfl⟩ := h
  · exact hs.trans (if_neg (not_le.mpr hin)).symm
  · exact (if_pos hout).symm

/-- The record an operation raises when it answers a next state: the out-of-range reads always, the translated reads beyond their ROM,
and no other operation (R170, R172, R173). -/
def State.faultOf (s : State) : Instr → Option FaultRecord
  | .nRdLow a | .mRdLow a => some (.addressRange .cpu a)
  | .nChrOor a | .mChrOor a => some (.addressRange .ppu a)
  | .nRdPrg a => romFault .prg s.cart.prgSize (nromOffset s.cart.prgBanks a)
  | .mRdPrg a => romFault .prg s.cart.prgSize (s.prgOffset a)
  | .nChr a => romFault .chr s.cart.chrSize a.toNat
  | .mChr a => romFault .chr s.cart.chrSize (s.chrOffset a)
  | _ => none

/-- The fault condition after an operation is what it raises: a session's operation found it clear, a construction clears it. -/
theorem exec_faulted {i : Instr} {s t : State} (h : exec i s = .next t) : t.faulted = s.faultOf i := by
  cases i with
  | constructNrom c => obtain ⟨-, rfl⟩ := execConstructNrom_next c s t h; rfl
  | constructMmc1 c => obtain ⟨-, rfl⟩ := execConstructMmc1_next c s t h; rfl
  | constructBad n => exact absurd h (execConstructBad_next n s t)
  | nRdLow | nChrOor | mRdLow | mChrOor =>
    obtain ⟨-, -, -, hraise⟩ := State.serve_next _ _ _ _ _ h
    cases hraise
    rfl
  | nRdPrg | mRdPrg =>
    obtain ⟨hs, -, -, hread⟩ := State.serve_next _ _ _ _ _ h
    exact faulted_of_romRead hs (s.prgRomRead_next t _ hread)
  | nChr | mChr =>
    obtain ⟨hs, -, -, hread⟩ := State.serve_next _ _ _ _ _ h
    exact faulted_of_romRead hs (s.chrRomRead_next t _ hread)
  | nWr | mRdRam | mWrIgn | mWrRam | mWrReset | mWrShift | mWrCommitCtrl | mWrCommitChr0 | mWrCommitChr1 | mWrCommitPrg | mapsChr
  | recompute =>
    obtain ⟨hs, -, -, hdone⟩ := State.serve_next _ _ _ _ _ h
    cases hdone
    exact hs

/-- Settles O42: the four out-of-range reads raise it whenever they are served, and a served one lies in its row. -/
theorem addressRangeFaultIsRaisedByExactlyThese : Obligations.AddressRangeFaultIsRaisedByExactlyThese := by
  intro i s t p a h
  rw [exec_faulted h]
  constructor
  · intro hr
    cases i with
    | nRdLow b =>
      obtain ⟨-, hv, hb, -⟩ := execNRdLow_next b s t h
      cases hr
      exact .inl ⟨rfl, hv, rfl, of_decide_eq_true hb⟩
    | mRdLow b =>
      obtain ⟨-, hv, hb, -⟩ := execMRdLow_next b s t h
      cases hr
      exact .inr (.inl ⟨rfl, hv, rfl, of_decide_eq_true hb⟩)
    | nChrOor b =>
      obtain ⟨-, hv, hb, -⟩ := execNChrOor_next b s t h
      cases hr
      exact .inr (.inr (.inl ⟨rfl, hv, rfl, (Addr.not_inPattern_iff _).mp hb⟩))
    | mChrOor b =>
      obtain ⟨-, hv, hb, -⟩ := execMChrOor_next b s t h
      cases hr
      exact .inr (.inr (.inr ⟨rfl, hv, rfl, (Addr.not_inPattern_iff _).mp hb⟩))
    | nRdPrg | mRdPrg | nChr | mChr => cases (romFault_eq_some_iff.mp hr).2
    | _ => cases hr
  · rintro (⟨rfl, -, rfl, -⟩ | ⟨rfl, -, rfl, -⟩ | ⟨rfl, -, rfl, -⟩ | ⟨rfl, -, rfl, -⟩) <;> rfl

/-- The program reads that raise RomBoundsFault(PRG, off): those that translate to an `off` beyond PRG_ROM. -/
theorem State.faultOf_eq_romBounds_prg_iff (s : State) (i : Instr) (off : Nat) :
    s.faultOf i = some (.romBounds .prg off) ↔ s.cart.prgSize ≤ off ∧ ∃ a : Addr,
      (i = .nRdPrg a ∧ off = nromOffset s.cart.prgBanks a) ∨ (i = .mRdPrg a ∧ off = s.prgOffset a) := by
  constructor
  · intro hr
    cases i with
    | nRdPrg a =>
      obtain ⟨hout, ⟨⟩⟩ := romFault_eq_some_iff.mp hr
      exact ⟨hout, a, .inl ⟨rfl, rfl⟩⟩
    | mRdPrg a =>
      obtain ⟨hout, ⟨⟩⟩ := romFault_eq_some_iff.mp hr
      exact ⟨hout, a, .inr ⟨rfl, rfl⟩⟩
    | nChr | mChr => cases (romFault_eq_some_iff.mp hr).2
    | _ => cases hr
  · rintro ⟨hout, a, ⟨rfl, rfl⟩ | ⟨rfl, rfl⟩⟩ <;> exact if_pos hout

/-- The pattern reads that raise RomBoundsFault(CHR, off): those that translate to an `off` beyond CHR_ROM. -/
theorem State.faultOf_eq_romBounds_chr_iff (s : State) (i : Instr) (off : Nat) :
    s.faultOf i = some (.romBounds .chr off) ↔ s.cart.chrSize ≤ off ∧ ∃ a : Addr,
      (i = .nChr a ∧ off = a.toNat) ∨ (i = .mChr a ∧ off = s.chrOffset a) := by
  constructor
  · intro hr
    cases i with
    | nChr a =>
      obtain ⟨hout, ⟨⟩⟩ := romFault_eq_some_iff.mp hr
      exact ⟨hout, a, .inl ⟨rfl, rfl⟩⟩
    | mChr a =>
      obtain ⟨hout, ⟨⟩⟩ := romFault_eq_some_iff.mp hr
      exact ⟨hout, a, .inr ⟨rfl, rfl⟩⟩
    | nRdPrg | mRdPrg => cases (romFault_eq_some_iff.mp hr).2
    | _ => cases hr
  · rintro ⟨hout, a, ⟨rfl, rfl⟩ | ⟨rfl, rfl⟩⟩ <;> exact if_pos hout

/-- A served program read translates through the window its address lies in (R163). -/
theorem exec_mRdPrg_offset_iff {a : Addr} {s t : State} (h : exec (.mRdPrg a) s = .next t) (off : Nat) :
    off = s.prgOffset a ↔ (a.toNat ≤ 0xBFFF ∧ off = s.prgOffsets.w0 + (a.toNat - 0x8000)) ∨
      (0xC000 ≤ a.toNat ∧ off = s.prgOffsets.w1 + (a.toNat - 0xC000)) := by
  obtain ⟨-, -, ha, -⟩ := execMRdPrg_next a s t h
  obtain hhigh | hlow := Nat.lt_or_ge 0xBFFF a.toNat
  · rw [s.prgOffset_window1 a hhigh]
    omega
  · rw [s.prgOffset_window0 a (of_decide_eq_true ha) hlow]
    omega

/-- A served pattern read translates through the window its address lies in (R164). -/
theorem exec_mChr_offset_iff {a : Addr} {s t : State} (h : exec (.mChr a) s = .next t) (off : Nat) :
    off = s.chrOffset a ↔ (a.toNat ≤ 0x0FFF ∧ off = s.chrOffsets.w0 + a.toNat) ∨
      (0x1000 ≤ a.toNat ∧ off = s.chrOffsets.w1 + (a.toNat - 0x1000)) := by
  obtain ⟨-, -, ha, -⟩ := execMChr_next a s t h
  obtain hhigh | hlow := Nat.lt_or_ge 0x0FFF a.toNat
  · rw [s.chrOffset_window1 a hhigh (Nat.le_of_lt_succ (of_decide_eq_true ha))]
    omega
  · rw [s.chrOffset_window0 a hlow]
    omega

/-- Settles O43: the operations that raise it are the translated reads, and each translation is that of its window. -/
theorem romBoundsFaultIsRaisedExactlyBeyondTheRom : Obligations.RomBoundsFaultIsRaisedExactlyBeyondTheRom := by
  intro i s t off h
  rw [exec_faulted h, s.faultOf_eq_romBounds_prg_iff, s.faultOf_eq_romBounds_chr_iff]
  refine ⟨and_congr_right fun _ => exists_congr fun a => or_congr ?nromPrg ?mmc1Prg,
    and_congr_right fun _ => exists_congr fun a => or_congr_right ?mmc1Chr⟩
  case nromPrg => rw [nromOffset_eq_nromTable]
  case mmc1Prg =>
    rw [← and_or_left]
    exact and_congr_right fun hi => exec_mRdPrg_offset_iff (hi ▸ h) off
  case mmc1Chr =>
    rw [← and_or_left]
    exact and_congr_right fun hi => exec_mChr_offset_iff (hi ▸ h) off

/-! ## Writes complete -/

/-- A mutation an unfaulted block does not refuse is completed. -/
theorem State.serve_done_of_ne_refused {s u : State} {v : Variant} {row : Bool} (hs : s.faulted = none)
    (h : s.serve v row u.done ≠ .refused .notThisRow) : s.serve v row u.done = .next (u.withResult .nothing) := by
  rw [State.serve, hs] at h ⊢
  exact if_pos (not_not.mp fun hrow => h (if_neg hrow))

/-- Settles O41: in its row a write is not refused, and its effect is to complete a mutation that leaves the fault condition alone. -/
theorem noWriteRaisesAFault : Obligations.NoWriteRaisesAFault := by
  intro i s hi hwf hrow hs
  have hne := exec_ne_refused hwf hrow .notThisRow
  cases i with
  | nWr | mWrIgn | mWrRam | mWrReset | mWrShift | mWrCommitCtrl | mWrCommitChr0 | mWrCommitChr1 | mWrCommitPrg =>
    exact ⟨_, State.serve_done_of_ne_refused hs hne, hs, rfl⟩
  | _ => cases hi

/-! ## The precise fault -/

/-- Settles O44: of the effects of a session's operation, which found the block unfaulted, only raising the fault sets it. -/
theorem faultsArePrecise : Obligations.FaultsArePrecise := by
  intro i s t r h hr
  have hs : isConstruct i = false → s.faulted = none := faulted_eq_none_of_exec h
  cases exec_effect h with
  | fault f => cases hr; rfl
  | answer _ hi => cases (hs hi).symm.trans hr
  | ramWrite | shift | recompute => cases (hs rfl).symm.trans hr
  | register u hu => cases hu <;> cases (hs rfl).symm.trans hr
  | nrom | mmc1 => cases hr

/-! ## The halted and the idle block -/

theorem step_of_no_pending {s : State} (hp : s.pending = []) : step s = s.idle := by
  rw [step, hp]

/-- A faulted block performs no pending operation of a session. -/
theorem step_of_faulted {s : State} {f : FaultRecord} {r : Request} {rest : List Request} {i : Instr} (hf : s.faulted = some f)
    (hp : s.pending = r :: rest) (hd : s.decodeFor r = .ok i) (hi : isConstruct i = false) : step s = .fault (.halted f) :=
  (step_of_pending s r rest i hp hd).trans (exec_of_faulted hf hi)

/-- Settles O45: every operation of a session meets the halted block, and a step is one of them or the idling of such a block. -/
theorem faultedBlockAnswersNothing : Obligations.FaultedBlockAnswersNothing := by
  intro s r hf
  refine ⟨fun i => exec_of_faulted hf, fun hp => ?idle, fun w rest hp hw => ?bus, fun rest hp => step_of_faulted hf hp rfl rfl⟩
  case idle => rw [step_of_no_pending hp, State.idle, hf]
  case bus =>
    obtain ⟨i, hi⟩ := exists_decodeWord_of_kind_ne_three s.variant s.shiftCount w hw
    exact step_of_faulted hf hp hi (isConstruct_of_decodeWord hi)

/-- Settles O56: the step is the idling of a block that is not halted. -/
theorem stepWithNothingPendingIsIdle : Obligations.StepWithNothingPendingIsIdle := by
  intro s hp hf
  rw [step_of_no_pending hp, State.idle, hf]

end Sys2Proof.Machine
end

section
/-! PROOFS. The reset-and-hazards family: what the loader owes a construction, the banks a constructed block shows, and ROMs large
enough for every offset. -/

namespace Sys2Proof.Machine

open Sys2Proof.Claims

/-! ## The two refusals of a construction -/

/-- No program bank is the first thing a construction refuses (R193 (b); log 14). -/
theorem constructWith_noProgramBank {c : Cartridge} (b : State) (hbanks : c.prgBanks = 0) :
    constructWith c b = .refused .noProgramBank :=
  if_pos hbanks

/-- A list of cells that is not canonical or leaves its memory is the second (R193 (b); log 14). -/
theorem constructWith_malformedImage {c : Cartridge} (b : State) (hbanks : 1 ≤ c.prgBanks) (himages : c.imagesWf = false) :
    constructWith c b = .refused .malformedImage := by
  rw [constructWith, if_neg (Nat.one_le_iff_ne_zero.mp hbanks), himages]
  rfl

/-- Settles O4: both constructions test the cartridge alike, before they build a state from it. -/
theorem constructionRefusesABrokenCartridge : Obligations.ConstructionRefusesABrokenCartridge := fun _ _ =>
  ⟨fun hbanks => ⟨constructWith_noProgramBank _ hbanks, constructWith_noProgramBank _ hbanks⟩,
    fun hbanks himages => ⟨constructWith_malformedImage _ hbanks himages, constructWith_malformedImage _ hbanks himages⟩⟩

/-! ## What a constructed block shows -/

theorem Cartridge.one_le_prgBanks_of_wf {c : Cartridge} (hc : c.wf = true) : 1 ≤ c.prgBanks :=
  of_decide_eq_true (Bool.and_eq_true_iff.mp hc).1

theorem chrRead_inside {s : State} {off : Nat} (h : off < s.cart.chrSize) :
    chrRead s off = s.withResult (.byte (chrRomAt s.cart off)) :=
  if_pos h

theorem State.constructedMmc1_answers (s : State) (c : Cartridge) : (s.constructedMmc1 c).answers .mmc1 := ⟨rfl, rfl⟩

/-- Both pattern offsets of R40 are 0, so the two windows show the same bytes. -/
theorem State.constructedMmc1_chrOffset (s : State) (c : Cartridge) {a : Addr} (ha : a.toNat ≤ 0x1FFF) :
    (s.constructedMmc1 c).chrOffset a = a.toNat % 0x1000 := by
  obtain hlow | hhigh := Nat.lt_or_ge a.toNat 0x1000
  · rw [State.chrOffset_window0 _ a (Nat.le_of_lt_succ hlow)]
    exact (Nat.zero_add _).trans (Nat.mod_eq_of_lt hlow).symm
  · rw [State.chrOffset_window1 _ a hhigh ha, constructedMmc1_chrOffsets]
    dsimp only
    omega

/-- Settles O19: the offsets of R40 are bank 0, the last bank and 0 twice, and every offset of such a window is inside its ROM. -/
theorem constructedBlockShowsFirstAndLastBank : Obligations.ConstructedBlockShowsFirstAndLastBank := by
  intro c s a hc
  have hbanks : 1 ≤ c.prgBanks := Cartridge.one_le_prgBanks_of_wf hc
  have ht := s.constructedMmc1_answers c
  obtain ⟨hwindow0, hwindow1⟩ := mmc1ProgramReadUsesItsWindow a _ ht
  simp only [State.constructedMmc1_prgOffsets, Nat.zero_add] at hwindow0 hwindow1
  refine ⟨s.constructedMmc1 c, exec_constructMmc1_of_wf c s hc, fun hlow hhigh => ?firstBank, fun hlow => ?lastBank,
    fun hsize hhigh => ?pattern⟩
  case firstBank =>
    rw [hwindow0 hlow hhigh, prgRead_inside (by rw [State.constructedMmc1_cart]; omega)]
    rfl
  case lastBank =>
    have := a.isLt
    rw [hwindow1 hlow, prgRead_inside (by rw [State.constructedMmc1_cart]; omega)]
    rfl
  case pattern =>
    rw [exec_mChr_of_inPattern ht hhigh, s.constructedMmc1_chrOffset c hhigh,
      chrRead_inside (by rw [State.constructedMmc1_cart]; omega)]
    rfl

/-! ## ROMs large enough for every offset -/

/-- Settles O46: an offset that faults is a window's entry plus less than the window's size, and the largest such sum is below the size. -/
theorem largeRomsNeverGoOutOfBounds : Obligations.LargeRomsNeverGoOutOfBounds := by
  intro i s t rom off hs hv hprg hchr h hfault
  obtain ⟨hprgFault, hchrFault⟩ := romBoundsFaultIsRaisedExactlyBeyondTheRom i s t off h
  obtain ⟨-, hp0, -, hp1, -, hc0, -, hc1⟩ := derivedOffsetsAreAlignedAndBounded s hs hv
  cases rom with
  | prg =>
    obtain ⟨hout, a, ⟨rfl, -⟩ | ⟨-, ha, hoff⟩ | ⟨-, -, hoff⟩⟩ := hprgFault.mp hfault
    · obtain ⟨-, hnrom, -⟩ := execNRdPrg_next a s t h
      cases hv.symm.trans hnrom
    · omega
    · have := a.isLt
      omega
  | chr =>
    obtain ⟨hout, a, ⟨rfl, -⟩ | ⟨-, ha, hoff⟩ | ⟨rfl, -, hoff⟩⟩ := hchrFault.mp hfault
    · obtain ⟨-, hnrom, -⟩ := execNChr_next a s t h
      cases hv.symm.trans hnrom
    · omega
    · obtain ⟨-, -, ha, -⟩ := execMChr_next a s t h
      have : a.toNat < 0x2000 := of_decide_eq_true ha
      omega

end Sys2Proof.Machine
end
